-- ==== Sys2Proof/Word.lean ====
section
/-! DEFINITION. The engine's word types (00_scope.md R8: a byte is 8 bits, every quantity is unsigned). -/

namespace Sys2Proof

/-- A byte: 8 bits (R8). -/
abbrev Byte := BitVec 8

/-- A 16-bit value: an accumulator, a checksum, a width, a height, a sequence number, a pixel sample. -/
abbrev Half := BitVec 16

/-- A 32-bit value: the `length` field and `TX_REMAIN`. -/
abbrev Word := BitVec 32

end Sys2Proof
end

