-- ==== Sys2Proof/Config.lean ====
section
/-! DEFINITION. The configuration parameters of the engine (00_scope.md R5, 10_state.md R23), those of the environment agents
(R7), and the free values: what the spec leaves OPEN or leaves to the environment, as constants with no body. -/

namespace Sys2Proof

/-- The byte order of the multi-byte wire fields: `WIRE_ENDIAN` (R5, R41). R23 codes `BE` as 0 and `LE` as 1. -/
inductive WireEndian where
  | be | le
  deriving DecidableEq, Repr, Inhabited

/-- The 4-byte magic constant in wire order: `b0` is `MAGIC[0]`, sent first (R5, R43). -/
structure Magic where
  b0 : Byte
  b1 : Byte
  b2 : Byte
  b3 : Byte
  deriving DecidableEq, Repr, Inhabited

/-- The five command codes (R5, R64). -/
structure CommandCodes where
  ack       : Byte
  formatSet : Byte
  imageData : Byte
  writeReg  : Byte
  readReg   : Byte
  deriving DecidableEq, Repr

/-- The default codes (R64). -/
def CommandCodes.default : CommandCodes :=
  { ack := 0x00, formatSet := 0x01, imageData := 0x02, writeReg := 0x10, readReg := 0x11 }

/-- The configuration parameters a reset latches (R5, R23, R262). `rxBufSize < 2^32` (R5) is carried by its type.
DEDUCED (log 19): the two sizes are latched with the rest. -/
structure Configuration where
  magic     : Magic
  endian    : WireEndian
  crcSeed   : Half
  codes     : CommandCodes
  rxBufSize : Fin 4294967296
  chunkMax  : Nat
  deriving DecidableEq, Repr

/-- `HANDSHAKE_FAIL_POLICY` (R7, R211). -/
inductive FailPolicy where
  | halt | proceed
  deriving DecidableEq, Repr, Inhabited

/-- `NEGOTIATE_POLICY` (R7, R212). -/
inductive NegotiatePolicy where
  | once | everyFrame
  deriving DecidableEq, Repr, Inhabited

/-- The parameters of the environment agents (R7). `readFailStatus` is non-zero (R207). -/
structure EnvConfig where
  retryBudget     : Nat
  failPolicy      : FailPolicy
  negotiatePolicy : NegotiatePolicy
  readFailStatus  : Byte
  deriving DecidableEq, Repr

/-! ### Free values

No body: nothing can be proved of a value of one of these, so a statement that mentions one holds for every value of it. -/

/-- P1: the magic constant on the configuration inputs when the machine starts (log 7). -/
opaque Config.magic : Magic

/-- P2: the byte order on the configuration inputs when the machine starts (log 7). -/
opaque Config.wireEndian : WireEndian

/-- P3: fixes `RX_BUF_SIZE` when the machine starts; see `Config.rxBufSize` (log 7). -/
opaque Config.rxBufExtra : Nat

/-- P4: `CHUNK_MAX` less 1 when the machine starts (log 7). -/
opaque Config.chunkExtra : Nat

/-- P6: `RETRY_BUDGET` (log 8). -/
opaque Config.retryBudget : Nat

/-- P7: `HANDSHAKE_FAIL_POLICY` (log 8). -/
opaque Config.failPolicy : FailPolicy

/-- P8: `NEGOTIATE_POLICY` (log 8). -/
opaque Config.negotiatePolicy : NegotiatePolicy

/-- P9: fixes `READ_FAIL_STATUS`; see `Config.readFailStatus` (log 8). -/
opaque Config.readFailBits : Byte

/-- What the `n`-th `read_register(addr)` answers: the byte, or `none` where the read fails (R203, R207; log 10). -/
opaque Config.readRegister : Nat → Byte → Option Byte

/-- P3: any size with `12 <= RX_BUF_SIZE < 2^32` (R5). -/
def Config.rxBufSize : Fin 4294967296 :=
  ⟨Config.rxBufExtra % 4294967284 + 12, by omega⟩

/-- P9: any non-zero byte (R7). -/
def Config.readFailStatus : Byte :=
  if Config.readFailBits = 0 then 1 else Config.readFailBits

/-- What the configuration inputs show when the machine starts: free values where R5 says OPEN, the spec's default where it
gives one (R5, D3). DESIGN CHOICE (log 7). -/
def Config.inputs : Configuration :=
  { magic := Config.magic, endian := Config.wireEndian, crcSeed := 0xFFFF, codes := CommandCodes.default,
    rxBufSize := Config.rxBufSize, chunkMax := Config.chunkExtra + 1 }

/-- The environment's parameters: each a free value (log 8). -/
def Config.environment : EnvConfig :=
  { retryBudget := Config.retryBudget, failPolicy := Config.failPolicy,
    negotiatePolicy := Config.negotiatePolicy, readFailStatus := Config.readFailStatus }

end Sys2Proof
end

