-- ==== Sys2Proof/Syntax.lean ====
section
/-! DEFINITION. What the engine executes: the sixteen operations of 30_encoding.md R75 and the six wire command classes of
43_receive_and_decode.md R172, one constructor for each row of the opcode table; and the two forms in which they reach the
machine. -/

namespace Sys2Proof

/-- The agents that may issue an operation (R10, R75, R243). -/
inductive Agent where
  | controller | producer | environment
  deriving DecidableEq, Repr

/-- One constructor per row of the opcode table. A wire command carries what `dispatch` takes of an accepted frame (R168):
the device address and the payload bytes; `unknown` carries the command byte as well (R181). -/
inductive Instr where
  | crcLoad (seed : Half)
  | crcByte (b : Byte)
  | crcBlock (s : List Byte)
  | crcRead
  | txBegin (addr cmd : Byte) (plen : Nat)
  | txChunk (s : List Byte)
  | txEnd
  | txFrame (addr cmd : Byte) (payload : List Byte)
  | txAck (addr status : Byte) (seq : Half) (value : Byte)
  | txFormatSet (addr fmt : Byte) (width height : Half)
  | txImage (addr : Byte) (width height : Half)
  | rxByte (b : Byte)
  | rxBoundary
  | rxDecode
  | rxProcess
  | reset
  | ack (addr : Byte) (payload : List Byte)
  | formatSet (addr : Byte) (payload : List Byte)
  | imageData (addr : Byte) (payload : List Byte)
  | writeRegister (addr : Byte) (payload : List Byte)
  | readRegister (addr : Byte) (payload : List Byte)
  | unknown (addr cmd : Byte) (payload : List Byte)
  deriving DecidableEq, Repr

/-- Who may issue it (R75, R243). A wire command is serviced by the consumer, which runs on the controller's thread
(R204; DEDUCED, log 3). -/
def Instr.issuer : Instr → Agent
  | .rxByte _ | .rxBoundary => .producer
  | .reset => .environment
  | .crcLoad _ | .crcByte _ | .crcBlock _ | .crcRead | .txBegin _ _ _ | .txChunk _ | .txEnd | .txFrame _ _ _
  | .txAck _ _ _ _ | .txFormatSet _ _ _ _ | .txImage _ _ _ | .rxDecode | .rxProcess | .ack _ _ | .formatSet _ _
  | .imageData _ _ | .writeRegister _ _ | .readRegister _ _ | .unknown _ _ _ => .controller

/-- The two forms in which an instruction reaches the machine: a request at the operation port (select code and operand
bytes, R76; DESIGN CHOICE, log 2), or an accepted frame handed to the consumer (R168, R180; log 3). -/
inductive Request where
  | operation (bytes : List Byte)
  | frame (addr cmd : Byte) (payload : List Byte)
  deriving DecidableEq, Repr

/-- Rows of the opcode table in format OP, the operations of R75; the others are wire commands. -/
def Instr.isOperation : Instr → Bool
  | .ack _ _ | .formatSet _ _ | .imageData _ _ | .writeRegister _ _ | .readRegister _ _ | .unknown _ _ _ => false
  | .crcLoad _ | .crcByte _ | .crcBlock _ | .crcRead | .txBegin _ _ _ | .txChunk _ | .txEnd | .txFrame _ _ _
  | .txAck _ _ _ _ | .txFormatSet _ _ _ _ | .txImage _ _ _ | .rxByte _ | .rxBoundary | .rxDecode | .rxProcess
  | .reset => true

end Sys2Proof
end

