-- ==== Sys2Proof/WellFormed.lean ====
section
/-! DEFINITION. Which instructions stand for an encoding: every operation with every operand (the types carry the widths of
R75), and a wire command that can be a frame under the command codes in use. -/

namespace Sys2Proof

/-- The largest payload a 32-bit length field can declare: `2^32 - 13` (R61, R112). -/
def maxPayload : Nat := 4294967283

/-- The command byte is none of the five configured codes (R70, R181). -/
def CommandCodes.unassigned (codes : CommandCodes) (cmd : Byte) : Bool :=
  cmd != codes.ack && cmd != codes.formatSet && cmd != codes.imageData && cmd != codes.writeReg && cmd != codes.readReg

/-- The five codes are pairwise distinct (R6). -/
def CommandCodes.distinct (codes : CommandCodes) : Bool :=
  codes.ack != codes.formatSet && codes.ack != codes.imageData && codes.ack != codes.writeReg && codes.ack != codes.readReg
    && codes.formatSet != codes.imageData && codes.formatSet != codes.writeReg && codes.formatSet != codes.readReg
    && codes.imageData != codes.writeReg && codes.imageData != codes.readReg && codes.writeReg != codes.readReg

/-- A wire command's payload fits a frame (R61), and an `unknown` command byte is not one of the five codes (R181). -/
def wellFormed (codes : CommandCodes) : Instr → Bool
  | .ack _ p | .formatSet _ p | .imageData _ p | .writeRegister _ p | .readRegister _ p => decide (p.length ≤ maxPayload)
  | .unknown _ cmd p => decide (p.length ≤ maxPayload) && codes.unassigned cmd
  | .crcLoad _ | .crcByte _ | .crcBlock _ | .crcRead | .txBegin _ _ _ | .txChunk _ | .txEnd | .txFrame _ _ _
  | .txAck _ _ _ _ | .txFormatSet _ _ _ _ | .txImage _ _ _ | .rxByte _ | .rxBoundary | .rxDecode | .rxProcess
  | .reset => true

end Sys2Proof
end

