-- ==== Sys2Proof/Decode.lean ====
section
/-! DEFINITION. The decoder and, after it, the encoder. The select codes are 30_encoding.md R76; R172 selects the wire command
by its command byte. The spec gives the operations no operand encoding: a request is the select code followed by the operands
in the order of R75, a 16-bit operand high byte first, `plen` as base-256 digits low digit first to the end of the request, a
byte sequence to the end of the request. DESIGN CHOICE (log 2). -/

namespace Sys2Proof

/-- Why a request is no instruction. -/
inductive DecodeError where
  /-- The request holds no select code. -/
  | emptyRequest
  /-- "Every other select code is unassigned; a model refuses it" (R76). -/
  | unassignedSelect (code : Byte)
  /-- The operand bytes are too few or too many for the operation. -/
  | operandCount (code : Byte)
  deriving DecidableEq, Repr

/-! ### Bit fields -/

/-- `v[15:8]` (R8). -/
def hiByte (v : Half) : Byte := v.extractLsb' 8 8

/-- `v[7:0]` (R8). -/
def loByte (v : Half) : Byte := v.extractLsb' 0 8

/-- The 16-bit value with the given high and low bytes (R62). -/
def joinBytes (hi lo : Byte) : Half := hi ++ lo

/-- A natural number from its base-256 digits, low digit first. -/
def natOfBytes : List Byte → Nat
  | [] => 0
  | b :: bs => b.toNat + 256 * natOfBytes bs

/-- The base-256 digits of `n`, low digit first, at most `fuel` of them (`n` itself is fuel enough). -/
def bytesOfNatFuel : Nat → Nat → List Byte
  | 0, _ => []
  | fuel + 1, n => if n = 0 then [] else BitVec.ofNat 8 n :: bytesOfNatFuel fuel (n / 256)

/-- The base-256 digits of `n`, low digit first, none of them a leading zero. -/
def bytesOfNat (n : Nat) : List Byte := bytesOfNatFuel n n

/-! ### Decoder -/

/-- The wire commands and the default (R172). -/
inductive CommandKind where
  | ack | formatSet | imageData | writeRegister | readRegister | unknown
  deriving DecidableEq, Repr

/-- The five-way selection on the command byte, with `Unknown` as the default (R172). -/
def commandKind (codes : CommandCodes) (cmd : Byte) : CommandKind :=
  if cmd = codes.ack then .ack
  else if cmd = codes.formatSet then .formatSet
  else if cmd = codes.imageData then .imageData
  else if cmd = codes.writeReg then .writeRegister
  else if cmd = codes.readReg then .readRegister
  else .unknown

/-- An accepted frame's address, command byte and payload as a wire command (R168, R172). -/
def decodeFrame (codes : CommandCodes) (addr cmd : Byte) (payload : List Byte) : Instr :=
  match commandKind codes cmd with
  | .ack => .ack addr payload
  | .formatSet => .formatSet addr payload
  | .imageData => .imageData addr payload
  | .writeRegister => .writeRegister addr payload
  | .readRegister => .readRegister addr payload
  | .unknown => .unknown addr cmd payload

/-- The operation a select code and operand bytes stand for (R75, R76; log 2). -/
def decodeSelected (sel : Byte) (ops : List Byte) : Except DecodeError Instr :=
  if sel = 0x40 then
    match ops with
    | [h, l] => .ok (.crcLoad (joinBytes h l))
    | _ => .error (.operandCount sel)
  else if sel = 0x41 then
    match ops with
    | [b] => .ok (.crcByte b)
    | _ => .error (.operandCount sel)
  else if sel = 0x42 then .ok (.crcBlock ops)
  else if sel = 0x43 then
    match ops with
    | [] => .ok .crcRead
    | _ => .error (.operandCount sel)
  else if sel = 0x50 then
    match ops with
    | addr :: cmd :: digits => .ok (.txBegin addr cmd (natOfBytes digits))
    | _ => .error (.operandCount sel)
  else if sel = 0x51 then .ok (.txChunk ops)
  else if sel = 0x52 then
    match ops with
    | [] => .ok .txEnd
    | _ => .error (.operandCount sel)
  else if sel = 0x53 then
    match ops with
    | addr :: cmd :: payload => .ok (.txFrame addr cmd payload)
    | _ => .error (.operandCount sel)
  else if sel = 0x54 then
    match ops with
    | [addr, status, sh, sl, value] => .ok (.txAck addr status (joinBytes sh sl) value)
    | _ => .error (.operandCount sel)
  else if sel = 0x55 then
    match ops with
    | [addr, fmt, wh, wl, hh, hl] => .ok (.txFormatSet addr fmt (joinBytes wh wl) (joinBytes hh hl))
    | _ => .error (.operandCount sel)
  else if sel = 0x56 then
    match ops with
    | [addr, wh, wl, hh, hl] => .ok (.txImage addr (joinBytes wh wl) (joinBytes hh hl))
    | _ => .error (.operandCount sel)
  else if sel = 0x60 then
    match ops with
    | [b] => .ok (.rxByte b)
    | _ => .error (.operandCount sel)
  else if sel = 0x61 then
    match ops with
    | [] => .ok .rxBoundary
    | _ => .error (.operandCount sel)
  else if sel = 0x62 then
    match ops with
    | [] => .ok .rxDecode
    | _ => .error (.operandCount sel)
  else if sel = 0x63 then
    match ops with
    | [] => .ok .rxProcess
    | _ => .error (.operandCount sel)
  else if sel = 0x7F then
    match ops with
    | [] => .ok .reset
    | _ => .error (.operandCount sel)
  else .error (.unassignedSelect sel)

/-- A request at the operation port. -/
def decodeOperation : List Byte → Except DecodeError Instr
  | [] => .error .emptyRequest
  | sel :: ops => decodeSelected sel ops

/-- The decoder: total on every request; a wire command never fails (R172's default). -/
def decode (codes : CommandCodes) : Request → Except DecodeError Instr
  | .operation bytes => decodeOperation bytes
  | .frame addr cmd payload => .ok (decodeFrame codes addr cmd payload)

/-! ### Encoder -/

/-- The two bytes of a 16-bit operand at the operation port, high byte first (log 2). -/
def operandBytes (v : Half) : List Byte := [hiByte v, loByte v]

/-- The select code (R76), or for a wire command its command byte under the codes in use (R64). -/
def selectByte (codes : CommandCodes) : Instr → Byte
  | .crcLoad _ => 0x40
  | .crcByte _ => 0x41
  | .crcBlock _ => 0x42
  | .crcRead => 0x43
  | .txBegin _ _ _ => 0x50
  | .txChunk _ => 0x51
  | .txEnd => 0x52
  | .txFrame _ _ _ => 0x53
  | .txAck _ _ _ _ => 0x54
  | .txFormatSet _ _ _ _ => 0x55
  | .txImage _ _ _ => 0x56
  | .rxByte _ => 0x60
  | .rxBoundary => 0x61
  | .rxDecode => 0x62
  | .rxProcess => 0x63
  | .reset => 0x7F
  | .ack _ _ => codes.ack
  | .formatSet _ _ => codes.formatSet
  | .imageData _ _ => codes.imageData
  | .writeRegister _ _ => codes.writeReg
  | .readRegister _ _ => codes.readReg
  | .unknown _ cmd _ => cmd

/-- The request an instruction is written as. -/
def encode (codes : CommandCodes) (i : Instr) : Request :=
  let sel := selectByte codes i
  match i with
  | .crcLoad seed => .operation (sel :: operandBytes seed)
  | .crcByte b => .operation [sel, b]
  | .crcBlock s => .operation (sel :: s)
  | .crcRead => .operation [sel]
  | .txBegin addr cmd plen => .operation (sel :: addr :: cmd :: bytesOfNat plen)
  | .txChunk s => .operation (sel :: s)
  | .txEnd => .operation [sel]
  | .txFrame addr cmd payload => .operation (sel :: addr :: cmd :: payload)
  | .txAck addr status seq value => .operation ([sel, addr, status] ++ operandBytes seq ++ [value])
  | .txFormatSet addr fmt width height => .operation ([sel, addr, fmt] ++ operandBytes width ++ operandBytes height)
  | .txImage addr width height => .operation ([sel, addr] ++ operandBytes width ++ operandBytes height)
  | .rxByte b => .operation [sel, b]
  | .rxBoundary => .operation [sel]
  | .rxDecode => .operation [sel]
  | .rxProcess => .operation [sel]
  | .reset => .operation [sel]
  | .ack addr payload => .frame addr sel payload
  | .formatSet addr payload => .frame addr sel payload
  | .imageData addr payload => .frame addr sel payload
  | .writeRegister addr payload => .frame addr sel payload
  | .readRegister addr payload => .frame addr sel payload
  | .unknown addr _ payload => .frame addr sel payload

/-! ### Words of the opcode table -/

/-- How many operand bytes an operation has at least (R75, log 2); `none` for a byte that is no select code. -/
def leastOperands (sel : Byte) : Option Nat :=
  if sel = 0x40 then some 2
  else if sel = 0x41 then some 1
  else if sel = 0x42 then some 0
  else if sel = 0x43 then some 0
  else if sel = 0x50 then some 2
  else if sel = 0x51 then some 0
  else if sel = 0x52 then some 0
  else if sel = 0x53 then some 2
  else if sel = 0x54 then some 5
  else if sel = 0x55 then some 6
  else if sel = 0x56 then some 5
  else if sel = 0x60 then some 1
  else if sel = 0x61 then some 0
  else if sel = 0x62 then some 0
  else if sel = 0x63 then some 0
  else if sel = 0x7F then some 0
  else none

/-- How many payload bytes a wire command has at least to meet its payload condition (R66 to R69). -/
def leastPayload (codes : CommandCodes) (cmd : Byte) : Nat :=
  match commandKind codes cmd with
  | .formatSet => 5
  | .writeRegister => 2
  | .readRegister => 3
  | .ack | .imageData | .unknown => 0

/-- The first `n` bytes of a table word, least significant byte first. -/
def tableBytes : Nat → Nat → List Byte
  | 0, _ => []
  | n + 1, w => BitVec.ofNat 8 w :: tableBytes n (w / 256)

/-- `bytes` followed by as many zeros as it takes to make `n` of them. -/
def padZeros (n : Nat) (bytes : List Byte) : List Byte := bytes ++ List.replicate (n - bytes.length) 0

/-- The request a word of the opcode table stands for: the table gives its first byte, the select code of an operation or the
command byte of a frame; every operand or payload byte above the table's bits is 0, and there are as many of them as the
instruction needs (log 4). -/
def tableRequest (codes : CommandCodes) (nbits w : Nat) : Request :=
  let sel : Byte := BitVec.ofNat 8 w
  let more := tableBytes ((nbits + 7) / 8 - 1) (w / 256)
  match leastOperands sel with
  | some n => .operation (sel :: padZeros n more)
  | none => .frame (more.headD 0) sel (padZeros (leastPayload codes sel) more.tail)

/-- What the decoder reads from an instruction whose bits are `w`, under the default command codes. -/
def decodeTableWord (nbits w : Nat) : Option Instr :=
  (decode CommandCodes.default (tableRequest CommandCodes.default nbits w)).toOption

end Sys2Proof
end

