-- ==== Sys2Proof/Machine/State.lean ====
section
/-! DEFINITION. The machine's state (10_state.md), the outcomes an operation returns (60_exceptions.md R230), why the machine
stops, and the state after reset (R28). -/

namespace Sys2Proof.Machine

/-! ### Returned outcomes -/

/-- The three-field view of a four-byte Ack payload (R65, R173). -/
structure AckView where
  status : Byte
  seq    : Half
  value  : Byte
  deriving DecidableEq, Repr

/-- The class of a dispatched frame (R162). -/
inductive FrameClass where
  | ack (addr : Byte) (payload : List Byte) (view : Option AckView)
  | formatSet (addr fmt : Byte) (width height : Half)
  | imageData (addr : Byte) (payload : List Byte) (samples : List Half)
  | writeRegister (addr regAddr regValue : Byte)
  | readRegister (addr : Byte) (seq : Half) (regAddr : Byte)
  | unknown (addr cmd : Byte)
  deriving DecidableEq, Repr

/-- A decode outcome (R162). -/
inductive DecodeOutcome where
  | noFrame | incompleteFrame | badMagic | lengthMismatch | checksumMismatch
  | dispatched (c : FrameClass)
  deriving DecidableEq, Repr

/-- The refusals an operation may return (R232): values, after which the engine is as before (R233). -/
inductive OpRefusal where
  | crcNotLoaded | txBusy | txNotOpen | txOverrun | txUnderrun | txLengthOverflow | txChunkTooLarge
  deriving DecidableEq, Repr

/-- What an operation returns (R230); `outcomes` is RX_PROCESS's list (R180) and `handshakeTimeout` the environment's
`negotiate` (R235). -/
inductive Returned where
  | ok
  | value (v : Half)
  | decoded (o : DecodeOutcome)
  | outcomes (l : List DecodeOutcome)
  | notReady
  | refused (r : OpRefusal)
  | handshakeTimeout
  deriving DecidableEq, Repr

/-! ### Parts of the state -/

/-- `TX_STATE` (R13). -/
inductive TxState where
  | idle | payload
  deriving DecidableEq, Repr

/-- A byte buffer: the bytes that differ from what an unlisted index reads as, indices strictly rising. -/
abbrev Memory := List Host.Cell

/-- What an index that is not listed reads as. The spec gives the buffers no contents at reset (R16, R17): DESIGN CHOICE
(log 6). -/
def Memory.unlisted : Byte := 0

/-- The canonical form: indices strictly rising from `lo`, no byte equal to what an unlisted index reads as. -/
def Memory.wfFrom : Nat → Memory → Bool
  | _, [] => true
  | lo, (a, b) :: m => decide (lo ≤ a) && (b != Memory.unlisted) && Memory.wfFrom (a + 1) m

/-- The canonical form of a whole buffer. -/
def Memory.wf (m : Memory) : Bool := Memory.wfFrom 0 m

/-- Every listed index lies below `size`. -/
def Memory.below (size : Nat) (m : Memory) : Bool := m.all fun c => decide (c.1 < size)

/-- A producer event (R10, R160, R161). -/
inductive RxEvent where
  | byte (b : Byte)
  | boundary
  deriving DecidableEq, Repr

/-- The state of the Streaming Transmitter's handshake (R208, R210). -/
inductive Handshake where
  | needsFormatAck | streaming
  deriving DecidableEq, Repr

/-- Whether the controller's thread can step: R247 names the two things that can leave it without a step. -/
inductive Controller where
  | ready
  /-- Inside a TX_IMAGE whose pixel source cannot deliver the samples asked for (R149, R247 b). -/
  | waitingForPixels
  /-- Inside an emit that the byte sink does not return from (R124, R247 a). -/
  | waitingForSink
  deriving DecidableEq, Repr

/-- What the environment may do to the engine's inputs, besides the producer's events and RESET. -/
inductive EnvEvent where
  /-- The configuration inputs change (R262). -/
  | configure (c : Configuration)
  /-- The frame source completes an acquisition: its flag rises and its FIFO holds these samples (R202). -/
  | capture (samples : List Half)
  /-- The byte sink no longer returns from a write that starts once `more` further bytes are out (R247 a). -/
  | sinkHangs (more : Nat)
  /-- What the producer will do at each coming boundary between primitive steps of a composite operation (R48; log 11). -/
  | producerPlan (groups : List (List RxEvent))
  deriving DecidableEq, Repr

/-- One turn of an agent (R10; log 1). -/
inductive Turn where
  /-- An operation issued at the port, or an accepted frame handed to the consumer. -/
  | request (r : Request)
  /-- The Streaming Transmitter software runs `negotiate` (R208). -/
  | negotiate (addr fmt : Byte) (width height : Half)
  /-- The Streaming Transmitter software runs `write_image` (R213). -/
  | writeImage (addr fmt : Byte) (width height : Half)
  /-- The environment acts. -/
  | environment (e : EnvEvent)
  deriving DecidableEq, Repr

/-- The machine's state. -/
structure State where
  /-- The configuration registers (R23). -/
  cfg : Configuration
  /-- `CRC_ACC` (R11). -/
  crcAcc : Half
  /-- `CRC_VALID` (R12). -/
  crcValid : Bool
  /-- `TX_STATE` (R13). -/
  txState : TxState
  /-- `TX_CRC` (R14). -/
  txCrc : Half
  /-- `TX_REMAIN` (R15). -/
  txRemain : Word
  /-- `CHUNK_BUF` (R16). -/
  chunkBuf : Memory
  /-- `RX_BUF` (R17). -/
  rxBuf : Memory
  /-- `RX_COUNT` (R18). -/
  rxCount : Nat
  /-- `RX_READY` (R19). -/
  rxReady : Bool
  /-- `RX_OVF` (R20). -/
  rxOvf : Bool
  /-- `TX_OUT`: every byte handed to the byte sink, in order (R24). -/
  txOut : List Byte
  /-- The outcome the last controller operation returned (R230); none before the first, and while one has not returned
  (log 20). -/
  result : Option Returned
  /-- The values on the configuration inputs (R262). -/
  cfgIn : Configuration
  /-- `CAPTURE_READY`, the frame source's flag (R21, R202). -/
  captureReady : Bool
  /-- The frame source's pixel FIFO, next sample first (R25, R149). -/
  pixels : List Half
  /-- Where the byte sink stops returning: it does not return from a write that starts with this many bytes, or more, on
  `TX_OUT`; `none`: it returns from every write (R200, R247 a; log 13). -/
  sinkHangsAt : Option Nat
  /-- What the producer does at each coming boundary between primitive steps of a composite operation (R48; log 11). -/
  between : List (List RxEvent)
  /-- How many times `signal_capture_consumed()` was sent (R146). -/
  consumedSignals : Nat
  /-- The calls of `write_register(addr, value)`, in order (R205). -/
  regWrites : List (Byte × Byte)
  /-- How many times `read_register` was called: the key of its free answer (R203; log 10). -/
  regReads : Nat
  /-- The classes the consumer has received, in order (R204). -/
  consumed : List FrameClass
  /-- The handshake state (R208, R264). -/
  handshake : Handshake
  /-- A handshake is waiting for an Ack (R204, R208). -/
  waiting : Bool
  /-- How many polls `negotiate` has made (R209). -/
  polls : Nat
  /-- The environment agents' parameters (R7). -/
  envCfg : EnvConfig
  /-- Whether the controller's thread can step (R247). -/
  controller : Controller
  /-- What the agents do next, oldest first (log 1). -/
  agenda : List Turn
  deriving DecidableEq, Repr

/-- Why a run stops. -/
inductive Fault where
  /-- A turn of the controller's thread while it is inside a TX_IMAGE that waits for pixels (R149, R247 b): raised by the
  step, never by a meaning. Safe: the spec gives the controller no step there. -/
  | pixelSourceShort
  /-- A turn of the controller's thread while it is inside a write the byte sink does not return from (R247 a): raised by
  the step, never by a meaning. Safe: the spec gives the controller no step there. -/
  | sinkNeverReturns
  deriving DecidableEq, Repr

/-- Why a request has no meaning. -/
inductive Refusal where
  /-- Raised by exec's arms for an instruction not modelled yet. Safe. No arm raises it now. -/
  | notModelled (mnemonic : String)
  /-- Raised by the step for a request the decoder rejects (R76: "a model refuses it"). Safe. -/
  | undecodable (e : DecodeError)
  /-- Raised by RESET where the configuration inputs break R5 or R6: "the model gives such an engine no behaviour" (R262).
  Safe. -/
  | invalidConfiguration
  deriving DecidableEq, Repr

/-- The state right after reset of an engine whose configuration inputs show `c` (R28), at the start of a run: the values
the spec gives; and for what the spec leaves unspecified, the values of logs 5 to 10 (DESIGN CHOICE). -/
def State.afterReset (c : Configuration) : State :=
  { cfg := c, crcAcc := 0, crcValid := false, txState := .idle, txCrc := 0, txRemain := 0, chunkBuf := [], rxBuf := [],
    rxCount := 0, rxReady := false, rxOvf := false, txOut := [], result := none, cfgIn := c, captureReady := false,
    pixels := [], sinkHangsAt := none, between := [], consumedSignals := 0, regWrites := [], regReads := 0, consumed := [],
    handshake := .needsFormatAck, waiting := false, polls := 0, envCfg := Config.environment, controller := .ready,
    agenda := [] }

/-- The machine right after reset (R28, R260). -/
def State.reset : State := State.afterReset Config.inputs

end Sys2Proof.Machine
end

