-- ==== Sys2Proof/Machine/Operands.lean ====
section
/-! DEFINITION. The CRC function (40_crc_engine.md R90, R91), the byte order of wire fields (R8, R41, R62), the frame as the
encoder builds it (R60, R111, R119), the payloads of the commands (R65 to R69), and their parsing (R172 to R181). -/

namespace Sys2Proof.Machine

/-! ### The CRC function -/

/-- One of the eight iterations: shift right, exclusive-or `0xA001` where the bit shifted out is 1 (R90). -/
def crcShift (a : Half) : Half :=
  if a.getLsbD 0 then (a >>> 1) ^^^ 0xA001 else a >>> 1

/-- `n` iterations. -/
def crcShifts : Nat → Half → Half
  | 0, a => a
  | n + 1, a => crcShifts n (crcShift a)

/-- `crc16_byte(acc, b)` (R90). -/
def crc16Byte (acc : Half) (b : Byte) : Half := crcShifts 8 (acc ^^^ b.setWidth 16)

/-- `crc16_update(acc, s)`: the left fold of `crc16_byte` (R91). -/
def crc16Update (acc : Half) (s : List Byte) : Half := s.foldl crc16Byte acc

/-! ### Byte order -/

/-- `enc16(v)` (R8). -/
def enc16 (e : WireEndian) (v : Half) : List Byte :=
  match e with
  | .be => [hiByte v, loByte v]
  | .le => [loByte v, hiByte v]

/-- `dec16(s)` of the bytes `s0`, `s1` (R62). -/
def dec16 (e : WireEndian) (s0 s1 : Byte) : Half :=
  match e with
  | .be => joinBytes s0 s1
  | .le => joinBytes s1 s0

/-- `enc32(v)` (R8). -/
def enc32 (e : WireEndian) (v : Word) : List Byte :=
  match e with
  | .be => [v.extractLsb' 24 8, v.extractLsb' 16 8, v.extractLsb' 8 8, v.extractLsb' 0 8]
  | .le => [v.extractLsb' 0 8, v.extractLsb' 8 8, v.extractLsb' 16 8, v.extractLsb' 24 8]

/-- `dec32(s)` of the bytes `s0` to `s3` (R62). -/
def dec32 (e : WireEndian) (s0 s1 s2 s3 : Byte) : Word :=
  match e with
  | .be => s0 ++ s1 ++ s2 ++ s3
  | .le => s3 ++ s2 ++ s1 ++ s0

/-- `s[i]` (R8), read only where `i < len(s)`. -/
def byteAt (s : List Byte) (i : Nat) : Byte := s.getD i 0

/-- `s[a..b)` (R8). -/
def slice (s : List Byte) (a b : Nat) : List Byte := (s.take b).drop a

/-- Samples as wire bytes, in order (R143). -/
def samplesBytes (e : WireEndian) : List Half → List Byte
  | [] => []
  | q :: qs => enc16 e q ++ samplesBytes e qs

/-- Wire bytes as samples: `samples[k] = dec16(payload[2k..2k+2))` (R175). -/
def bytesSamples (e : WireEndian) : List Byte → List Half
  | b0 :: b1 :: bs => dec16 e b0 b1 :: bytesSamples e bs
  | _ => []

/-- The numeric coding of `WIRE_ENDIAN` (R23). -/
def endianCode : WireEndian → BitVec 1
  | .be => 0
  | .le => 1

/-- The pixel formats (R72). The codec carries the byte and validates nothing: no meaning reads this type. -/
inductive PixelFormat where
  | jpeg | bmp | png | rgb565 | rgb888 | monochrome
  deriving DecidableEq, Repr

/-- The byte of a pixel format (R72). -/
def pixelFormatCode : PixelFormat → Byte
  | .jpeg => 1
  | .bmp => 2
  | .png => 3
  | .rgb565 => 4
  | .rgb888 => 5
  | .monochrome => 6

/-! ### The frame as the encoder builds it -/

/-- `MAGIC[0]` to `MAGIC[3]` in wire order (R43). -/
def magicBytes (m : Magic) : List Byte := [m.b0, m.b1, m.b2, m.b3]

/-- The `length` field of a frame with `n` payload bytes, in unbounded naturals: header, payload, checksum (R61, R112). -/
def frameLength (n : Nat) : Nat := 10 + n + 2

/-- The greatest value of the `length` field (R60). -/
def maxLength : Nat := 4294967295

/-- `header(addr, cmd, N)` (R111). -/
def header (c : Configuration) (addr cmd : Byte) (n : Nat) : List Byte :=
  magicBytes c.magic ++ [addr] ++ enc32 c.endian (BitVec.ofNat 32 (frameLength n)) ++ [cmd]

/-- Header and payload: what the checksum covers (R63). -/
def frameBody (c : Configuration) (addr cmd : Byte) (payload : List Byte) : List Byte :=
  header c addr cmd payload.length ++ payload

/-- `FRAME(addr, cmd, payload)` (R60, R77, R119). -/
def frameBytes (c : Configuration) (addr cmd : Byte) (payload : List Byte) : List Byte :=
  frameBody c addr cmd payload ++ enc16 c.endian (crc16Update c.crcSeed (frameBody c addr cmd payload))

/-- The register-read acknowledgement's payload (R65, R120). -/
def ackPayload (e : WireEndian) (status : Byte) (seq : Half) (value : Byte) : List Byte :=
  [status] ++ enc16 e seq ++ [value]

/-- The FormatSet payload (R66, R121). -/
def formatSetPayload (e : WireEndian) (fmt : Byte) (width height : Half) : List Byte :=
  [fmt] ++ enc16 e width ++ enc16 e height

/-! ### Parsing an accepted frame -/

/-- `parse_ack` (R173). -/
def parseAck (e : WireEndian) (addr : Byte) (payload : List Byte) : FrameClass :=
  match payload with
  | [status, s0, s1, value] => .ack addr payload (some ⟨status, dec16 e s0 s1, value⟩)
  | _ => .ack addr payload none

/-- `parse_formatset` (R174), and `Unknown` for a payload of the wrong size (R177). -/
def parseFormatSet (c : Configuration) (addr : Byte) (payload : List Byte) : FrameClass :=
  match payload with
  | [fmt, w0, w1, h0, h1] => .formatSet addr fmt (dec16 c.endian w0 w1) (dec16 c.endian h0 h1)
  | _ => .unknown addr c.codes.formatSet

/-- `parse_image` (R175), and `Unknown` for an odd payload (R177). -/
def parseImage (c : Configuration) (addr : Byte) (payload : List Byte) : FrameClass :=
  if payload.length % 2 = 0 then .imageData addr payload (bytesSamples c.endian payload)
  else .unknown addr c.codes.imageData

/-- `parse_writereg` (R176), and `Unknown` for a payload of the wrong size (R177). -/
def parseWriteReg (c : Configuration) (addr : Byte) (payload : List Byte) : FrameClass :=
  match payload with
  | [regAddr, regValue] => .writeRegister addr regAddr regValue
  | _ => .unknown addr c.codes.writeReg

/-- `parse_readreg` (R179), and `Unknown` for a payload of the wrong size (R177). -/
def parseReadReg (c : Configuration) (addr : Byte) (payload : List Byte) : FrameClass :=
  match payload with
  | [s0, s1, regAddr] => .readRegister addr (dec16 c.endian s0 s1) regAddr
  | _ => .unknown addr c.codes.readReg

/-- `dispatch(addr, cmd, payload)` (R172). -/
def dispatch (c : Configuration) (addr cmd : Byte) (payload : List Byte) : FrameClass :=
  match commandKind c.codes cmd with
  | .ack => parseAck c.endian addr payload
  | .formatSet => parseFormatSet c addr payload
  | .imageData => parseImage c addr payload
  | .writeRegister => parseWriteReg c addr payload
  | .readRegister => parseReadReg c addr payload
  | .unknown => .unknown addr cmd

/-! ### Validating a buffered sequence -/

/-- What the validation steps find in a buffered sequence (R164 to R168). -/
inductive FrameCheck where
  | incomplete | badMagic | badLength | badChecksum
  /-- All four checks passed: address, command and payload of the frame (R168). -/
  | accepted (addr cmd : Byte) (payload : List Byte)
  deriving DecidableEq, Repr

/-- The `length` field of a buffered sequence (R166). -/
def declaredLength (e : WireEndian) (bs : List Byte) : Nat :=
  (dec32 e (byteAt bs 5) (byteAt bs 6) (byteAt bs 7) (byteAt bs 8)).toNat

/-- The validation steps in the source's order (R162, R164 to R168, R236), over the buffered bytes `bs` and the overflow
flag. -/
def checkFrame (c : Configuration) (ovf : Bool) (bs : List Byte) : FrameCheck :=
  if bs.length < 10 then .incomplete
  else if slice bs 0 4 ≠ magicBytes c.magic then .badMagic
  else
    let len := declaredLength c.endian bs
    if ovf = true ∨ len ≠ bs.length ∨ len < 12 then .badLength
    else if crc16Update c.crcSeed (slice bs 0 (len - 2)) ≠ dec16 c.endian (byteAt bs (len - 2)) (byteAt bs (len - 1)) then
      .badChecksum
    else .accepted (byteAt bs 4) (byteAt bs 9) (slice bs 10 (len - 2))

/-- The outcome RX_DECODE returns for it (R162, R172). -/
def FrameCheck.outcome (c : Configuration) : FrameCheck → DecodeOutcome
  | .incomplete => .incompleteFrame
  | .badMagic => .badMagic
  | .badLength => .lengthMismatch
  | .badChecksum => .checksumMismatch
  | .accepted addr cmd payload => .dispatched (dispatch c addr cmd payload)

end Sys2Proof.Machine
end

