-- ==== Sys2Proof/Machine/Flags.lean ====
section
/-! DEFINITION. The engine's flags and what the controller can observe of them (10_state.md R12, R19, R20, R23), the state's
legality tests for a configuration (R5, R6, R262), and the status codes of outcomes (60_exceptions.md R246). The engine has no
condition codes (10_state.md section 3). -/

namespace Sys2Proof.Machine

/-- `poll_frame_available()`: the read of `RX_READY` (R19). -/
def pollFrameAvailable (s : State) : Bool := s.rxReady

/-- `is_capture_ready()`: the read of `CAPTURE_READY` (R21, R145). -/
def isCaptureReady (s : State) : Bool := s.captureReady

/-- The receive buffer is full (R160). -/
def rxFull (s : State) : Bool := decide (s.cfg.rxBufSize.val ≤ s.rxCount)

/-- A configuration that breaks no constraint of R5 or R6 (R262); `RX_BUF_SIZE < 2^32` is carried by its type. -/
def configValid (c : Configuration) : Bool :=
  c.codes.distinct && decide (12 ≤ c.rxBufSize.val) && decide (1 ≤ c.chunkMax)

/-- The status code of a decode outcome (R246). -/
def decodeStatus : DecodeOutcome → Byte
  | .noFrame => 0x01
  | .incompleteFrame => 0x02
  | .badMagic => 0x03
  | .lengthMismatch => 0x04
  | .checksumMismatch => 0x05
  | .dispatched _ => 0x00

/-- The status code of a refusal (R232, R246). -/
def refusalStatus : OpRefusal → Byte
  | .crcNotLoaded => 0x10
  | .txBusy => 0x11
  | .txNotOpen => 0x12
  | .txOverrun => 0x13
  | .txUnderrun => 0x14
  | .txChunkTooLarge => 0x15
  | .txLengthOverflow => 0x16

/-- The status code of an outcome, where R246 gives it one: none for CRC_READ's value and RX_PROCESS's list. -/
def statusCode : Returned → Option Byte
  | .ok => some 0x00
  | .value _ => none
  | .decoded o => some (decodeStatus o)
  | .outcomes _ => none
  | .notReady => some 0x07
  | .refused r => some (refusalStatus r)
  | .handshakeTimeout => some 0x06

/-- The four kinds of outcome (R230); `other` is the environment's HandshakeTimeout (R235) and RX_PROCESS's list (R180). -/
inductive OutcomeKind where
  | success | nothingToDo | frameSignal | refusal | other
  deriving DecidableEq, Repr

/-- The kind of an outcome (R230). -/
def outcomeKind : Returned → OutcomeKind
  | .ok | .value _ | .decoded (.dispatched _) => .success
  | .decoded .noFrame | .notReady => .nothingToDo
  | .decoded .incompleteFrame | .decoded .badMagic | .decoded .lengthMismatch | .decoded .checksumMismatch => .frameSignal
  | .refused _ => .refusal
  | .outcomes _ | .handshakeTimeout => .other

end Sys2Proof.Machine
end

