-- ==== Sys2Proof/Machine/Ops.lean ====
section
/-! DEFINITION. The named operations over buffers and registers that the meanings are written with: reading and writing a
buffer byte, returning an outcome (the engine's whole "trap entry", 60_exceptions.md R240), the byte sink, the encoder's three
primitive steps, the receive channel, and the consumer's actions. -/

namespace Sys2Proof.Machine

/-! ### Buffers (R16, R17, R40) -/

/-- The byte at index `a`. -/
def readByte : Memory → Nat → Byte
  | [], _ => Memory.unlisted
  | (k, b) :: m, a => if a = k then b else readByte m a

/-- The listed bytes with index `a` made to read as `b`, in canonical form. -/
def writeByte : Memory → Nat → Byte → Memory
  | [], a, b => if b = Memory.unlisted then [] else [(a, b)]
  | (k, v) :: m, a, b =>
    if a < k then (if b = Memory.unlisted then (k, v) :: m else (a, b) :: (k, v) :: m)
    else if a = k then (if b = Memory.unlisted then m else (a, b) :: m)
    else (k, v) :: writeByte m a b

/-- The `n` bytes from index `a` (R8, `MemRead`). -/
def readBytes (m : Memory) (a : Nat) : Nat → List Byte
  | 0 => []
  | n + 1 => readByte m a :: readBytes m (a + 1) n

/-- The bytes `bs` stored from index `a` on. -/
def writeBytes (m : Memory) (a : Nat) : List Byte → Memory
  | [] => m
  | b :: bs => writeBytes (writeByte m a b) (a + 1) bs

/-! ### Returning an outcome (R8, R230, R233, R240) -/

/-- `raise <Outcome>`: the operation ends with this outcome. Nothing is saved, no mode changes and control goes nowhere
(R240). -/
def State.returning (s : State) (o : Returned) : State := { s with result := some o }

/-- `refuse <Reason>`: no state changes but the returned outcome, and nothing is emitted (R8, R233). -/
def State.refusing (s : State) (r : OpRefusal) : State := s.returning (.refused r)

/-- The operation does not return: the controller's thread is left inside it (R247; log 12, log 13). -/
def State.hanging (s : State) (c : Controller) : State := { s with controller := c, result := none }

/-- The next step of a composite: taken where the step before it returned `Ok` (41_frame_encoder.md section 3). -/
def State.andThen (s : State) (f : State → State) : State :=
  if s.result = some .ok then f s else s

/-- The fault of a turn of the controller's thread that cannot step (R247). -/
def Controller.fault : Controller → Option Fault
  | .ready => none
  | .waitingForPixels => some .pixelSourceShort
  | .waitingForSink => some .sinkNeverReturns

/-! ### The encoder's primitive steps (R113, R115, R117) -/

/-- `emit(s)`: append to `TX_OUT` (R24). -/
def State.emit (s : State) (bs : List Byte) : State := { s with txOut := s.txOut ++ bs }

/-- The sink returns from a write that starts `k` bytes further on (R200, R247 a; log 13). -/
def State.sinkReturnsAt (s : State) (k : Nat) : Bool :=
  match s.sinkHangsAt with
  | none => true
  | some n => decide (s.txOut.length + k < n)

/-- A write of `bs` returns: the sink returns from it, or there is nothing to write (R124, R247; D9). -/
def writeReturns (s : State) (bs : List Byte) : Bool := s.sinkReturnsAt 0 || bs.isEmpty

/-- Where the sink hangs once it is to hang `more` bytes further on: a sink that hangs does not recover (R247 a; log 13). -/
def hangPoint (s : State) (more : Nat) : Nat :=
  match s.sinkHangsAt with
  | none => s.txOut.length + more
  | some n => min n (s.txOut.length + more)

/-- The header is out: `TX_CRC`, `TX_REMAIN` and `TX_STATE` as TX_BEGIN leaves them (R113). -/
def State.openFrame (s : State) (addr cmd : Byte) (plen : Nat) : State :=
  { s.emit (header s.cfg addr cmd plen) with
    txCrc := crc16Update s.cfg.crcSeed (header s.cfg addr cmd plen)
    txRemain := BitVec.ofNat 32 plen
    txState := .payload }

/-- `bs` has gone out as payload (R115). -/
def State.sendPayload (s : State) (bs : List Byte) : State :=
  { s.emit bs with
    txCrc := crc16Update s.txCrc bs
    txRemain := s.txRemain - BitVec.ofNat 32 bs.length }

/-- The checksum is out and the frame is closed (R117). -/
def State.closeFrame (s : State) : State :=
  { s.emit (enc16 s.cfg.endian s.txCrc) with txState := .idle }

/-- TX_BEGIN (R113). -/
def txBegin (addr cmd : Byte) (plen : Nat) (s : State) : State :=
  if s.txState ≠ .idle then s.refusing .txBusy
  else if maxLength < frameLength plen then s.refusing .txLengthOverflow
  else if writeReturns s (header s.cfg addr cmd plen) then (s.openFrame addr cmd plen).returning .ok
  else s.hanging .waitingForSink

/-- TX_CHUNK (R115). -/
def txChunk (bs : List Byte) (s : State) : State :=
  if s.txState ≠ .payload then s.refusing .txNotOpen
  else if s.txRemain.toNat < bs.length then s.refusing .txOverrun
  else if writeReturns s bs then (s.sendPayload bs).returning .ok
  else s.hanging .waitingForSink

/-- TX_END (R117). -/
def txEnd (s : State) : State :=
  if s.txState ≠ .payload then s.refusing .txNotOpen
  else if s.txRemain ≠ 0 then s.refusing .txUnderrun
  else if writeReturns s (enc16 s.cfg.endian s.txCrc) then s.closeFrame.returning .ok
  else s.hanging .waitingForSink

/-- TX_FRAME (R119). -/
def txFrame (addr cmd : Byte) (payload : List Byte) (s : State) : State :=
  ((txBegin addr cmd payload.length s).andThen (txChunk payload)).andThen txEnd

/-- TX_ACK (R120). -/
def txAck (addr status : Byte) (seq : Half) (value : Byte) (s : State) : State :=
  txFrame addr s.cfg.codes.ack (ackPayload s.cfg.endian status seq value) s

/-- TX_FORMATSET (R121). -/
def txFormatSet (addr fmt : Byte) (width height : Half) (s : State) : State :=
  txFrame addr s.cfg.codes.formatSet (formatSetPayload s.cfg.endian fmt width height) s

/-! ### The chunker (R141 to R149) -/

/-- `next_pixel_chunk(count)` where the source can deliver: the samples leave the FIFO (R149). -/
def State.dropPixels (s : State) (count : Nat) : State := { s with pixels := s.pixels.drop count }

/-- The samples are written into `CHUNK_BUF` from index 0 (R141, R143). -/
def State.fillChunk (s : State) (qs : List Half) : State :=
  { s with chunkBuf := writeBytes s.chunkBuf 0 (samplesBytes s.cfg.endian qs) }

/-- `signal_capture_consumed()`: it is sent once, and the frame source lowers its flag (R146, R202; log 17). -/
def State.signalConsumed (s : State) : State :=
  { s with captureReady := false, consumedSignals := s.consumedSignals + 1 }

/-- One turn of TX_IMAGE's loop: pull `height` samples, fill the chunk buffer, send the chunk (R141). A source that cannot
deliver leaves the operation without a step, the frame open (R149, R247 b; log 12). -/
def imageChunk (height : Nat) (s : State) : State :=
  if s.pixels.length < height then s.hanging .waitingForPixels
  else
    let filled := (s.dropPixels height).fillChunk (s.pixels.take height)
    txChunk (readBytes filled.chunkBuf 0 (2 * height)) filled

/-- The loop of TX_IMAGE, `n` turns (R141, R144). -/
def imageChunks (height : Nat) : Nat → State → State
  | 0, s => s
  | n + 1, s => (imageChunk height s).andThen (imageChunks height n)

/-- TX_IMAGE (R141). -/
def txImage (addr : Byte) (width height : Half) (s : State) : State :=
  let plen := width.toNat * height.toNat * 2
  if isCaptureReady s = false then s.returning .notReady
  else if s.txState ≠ .idle then s.refusing .txBusy
  else if maxLength < frameLength plen then s.refusing .txLengthOverflow
  else if s.cfg.chunkMax < height.toNat * 2 then s.refusing .txChunkTooLarge
  else
    (((txBegin addr s.cfg.codes.imageData plen s).andThen (imageChunks height.toNat width.toNat)).andThen txEnd).andThen
      State.signalConsumed

/-! ### The receive channel (R160 to R171) -/

/-- RX_BYTE with room in the buffer (R160). -/
def State.storeRx (s : State) (b : Byte) : State :=
  { s with rxBuf := writeByte s.rxBuf s.rxCount b, rxCount := s.rxCount + 1 }

/-- RX_BYTE with the buffer full: the byte is dropped (R160). -/
def State.overflowRx (s : State) : State := { s with rxOvf := true }

/-- RX_BYTE (R160). -/
def rxByte (b : Byte) (s : State) : State :=
  if rxFull s then s.overflowRx else s.storeRx b

/-- RX_BOUNDARY (R161). -/
def rxBoundary (s : State) : State := { s with rxReady := true }

/-- One producer event. -/
def rxEvent (s : State) : RxEvent → State
  | .byte b => rxByte b s
  | .boundary => rxBoundary s

/-- Producer events in arrival order (R51). -/
def rxEvents (s : State) (es : List RxEvent) : State := es.foldl rxEvent s

/-- `RX_BUF[0..RX_COUNT)`: `read_buffered_bytes()` (R162, R201). -/
def bufferedBytes (s : State) : List Byte := readBytes s.rxBuf 0 s.rxCount

/-- "Discard": the whole channel is cleared; the bytes of `RX_BUF` need not be erased (R171). -/
def State.clearChannel (s : State) : State := { s with rxReady := false, rxCount := 0, rxOvf := false }

/-- The flag goes down and the buffer is kept (R163, R164). -/
def State.lowerReady (s : State) : State := { s with rxReady := false }

/-- What an attempt to decode does to the receive state (R163, R164, R171). -/
def afterDecode (s : State) : FrameCheck → State
  | .incomplete => s.lowerReady
  | .badMagic | .badLength | .badChecksum | .accepted _ _ _ => s.clearChannel

/-- The frame check of the buffer as it stands (R162). -/
def checkBuffer (s : State) : FrameCheck := checkFrame s.cfg s.rxOvf (bufferedBytes s)

/-- RX_DECODE: what the attempt found (`none`: the flag is down, NoFrame) and the state after it (R162, R163). -/
def rxDecode (s : State) : Option FrameCheck × State :=
  if s.rxReady then (some (checkBuffer s), afterDecode s (checkBuffer s)) else (none, s)

/-- The outcome of an attempt (R162). -/
def decodeOutcome (c : Configuration) : Option FrameCheck → DecodeOutcome
  | none => .noFrame
  | some f => f.outcome c

/-- An accepted frame as it is handed to the consumer (R168, R180). -/
def FrameCheck.handed : FrameCheck → List Request
  | .accepted addr cmd payload => [.frame addr cmd payload]
  | .incomplete | .badMagic | .badLength | .badChecksum => []

/-- What RX_PROCESS has collected: the state, the outcomes in order, and the frames handed to the consumer in order. -/
structure Collected where
  state    : State
  outcomes : List DecodeOutcome
  handed   : List Request

/-- The loop of RX_PROCESS (R180), over what the producer does between its iterations (R48; log 11). With nothing more from
the producer the iteration after an attempt finds the flag down, which the attempt lowered (R163), and the loop ends. -/
def processLoop : List (List RxEvent) → State → Collected
  | [], s =>
    match rxDecode s with
    | (none, s') => { state := { s' with between := [] }, outcomes := [], handed := [] }
    | (some f, s') => { state := { s' with between := [] }, outcomes := [f.outcome s.cfg], handed := f.handed }
  | g :: gs, s =>
    match rxDecode s with
    | (none, s') => { state := { s' with between := g :: gs }, outcomes := [], handed := [] }
    | (some f, s') =>
      let rest := processLoop gs (rxEvents s' g)
      { state := rest.state, outcomes := f.outcome s.cfg :: rest.outcomes, handed := f.handed ++ rest.handed }

/-! ### The consumer (R204 to R207) -/

/-- The `status` byte of the reply to a register read (R206, R207). -/
def replyStatus (env : EnvConfig) (answer : Option Byte) : Byte :=
  match answer with
  | some _ => 0x00
  | none => env.readFailStatus

/-- The `value` byte of the reply to a register read (R206, R207). -/
def replyValue (answer : Option Byte) : Byte := answer.getD 0x00

/-- `handle_write` (R205): fire and forget. -/
def handleWrite (regAddr regValue : Byte) (s : State) : State :=
  { s with regWrites := s.regWrites ++ [(regAddr, regValue)] }

/-- `handle_read` (R206, R207): the answer of `read_register` is a free value (R203; log 10). -/
def handleRead (addr : Byte) (seq : Half) (regAddr : Byte) (s : State) : State :=
  let answer := Config.readRegister s.regReads regAddr
  txAck addr (replyStatus s.envCfg answer) seq (replyValue answer) { s with regReads := s.regReads + 1 }

/-- An Ack reaches the consumer: a handshake that waits takes it, otherwise it is ignored (R204, R208). -/
def takeAck (s : State) : State :=
  if s.waiting then { s with waiting := false, handshake := .streaming } else s

/-- The class is recorded as received by the consumer (R204). -/
def State.receiveClass (s : State) (c : FrameClass) : State := { s with consumed := s.consumed ++ [c] }

/-- What the consumer does with a class (R204). -/
def consume (c : FrameClass) (s : State) : State :=
  match c with
  | .ack _ _ _ => takeAck (s.receiveClass c)
  | .formatSet _ _ _ _ => s.receiveClass c
  | .imageData _ _ _ => s.receiveClass c
  | .writeRegister _ regAddr regValue => handleWrite regAddr regValue (s.receiveClass c)
  | .readRegister addr seq regAddr => handleRead addr seq regAddr (s.receiveClass c)
  | .unknown _ _ => s.receiveClass c

end Sys2Proof.Machine
end

