-- ==== Sys2Proof/Machine/Commands.lean ====
section
/-! DEFINITION. The wire commands: an accepted frame's payload is parsed into its class (43_receive_and_decode.md R173 to R181)
and the consumer acts on the class (44_environment_agents.md R204 to R207). -/

namespace Sys2Proof.Machine

/-- Ack (R173, R204). -/
def execAck (addr : Byte) (payload : List Byte) (s : State) : Host.Outcome State Fault Refusal :=
  .next (consume (parseAck s.cfg.endian addr payload) s)

/-- FormatSet (R174, R177, R204). -/
def execFormatSet (addr : Byte) (payload : List Byte) (s : State) : Host.Outcome State Fault Refusal :=
  .next (consume (parseFormatSet s.cfg addr payload) s)

/-- ImageData (R175, R177, R204). -/
def execImageData (addr : Byte) (payload : List Byte) (s : State) : Host.Outcome State Fault Refusal :=
  .next (consume (parseImage s.cfg addr payload) s)

/-- WriteRegister (R176, R177, R205). -/
def execWriteRegister (addr : Byte) (payload : List Byte) (s : State) : Host.Outcome State Fault Refusal :=
  .next (consume (parseWriteReg s.cfg addr payload) s)

/-- ReadRegister (R179, R177, R206). -/
def execReadRegister (addr : Byte) (payload : List Byte) (s : State) : Host.Outcome State Fault Refusal :=
  .next (consume (parseReadReg s.cfg addr payload) s)

/-- Unknown (R181): the payload is dropped. -/
def execUnknown (addr cmd : Byte) (_payload : List Byte) (s : State) : Host.Outcome State Fault Refusal :=
  .next (consume (.unknown addr cmd) s)

end Sys2Proof.Machine
end

