-- ==== Sys2Proof/Machine/CrcPort.lean ====
section
/-! DEFINITION. The four operations of the CRC unit's software port (40_crc_engine.md R94 to R97). -/

namespace Sys2Proof.Machine

/-- CRC_LOAD (R94). -/
def execCrcLoad (seed : Half) (s : State) : Host.Outcome State Fault Refusal :=
  .next ({ s with crcAcc := seed, crcValid := true }.returning .ok)

/-- CRC_BYTE (R95). -/
def execCrcByte (b : Byte) (s : State) : Host.Outcome State Fault Refusal :=
  if s.crcValid = false then .next (s.refusing .crcNotLoaded)
  else .next ({ s with crcAcc := crc16Byte s.crcAcc b }.returning .ok)

/-- CRC_BLOCK (R96). -/
def execCrcBlock (bs : List Byte) (s : State) : Host.Outcome State Fault Refusal :=
  if s.crcValid = false then .next (s.refusing .crcNotLoaded)
  else .next ({ s with crcAcc := crc16Update s.crcAcc bs }.returning .ok)

/-- CRC_READ (R97). -/
def execCrcRead (s : State) : Host.Outcome State Fault Refusal :=
  if s.crcValid = false then .next (s.refusing .crcNotLoaded)
  else .next (s.returning (.value s.crcAcc))

end Sys2Proof.Machine
end

