-- ==== Sys2Proof/Machine/Encoder.lean ====
section
/-! DEFINITION. The operations of the frame encoder (41_frame_encoder.md R113 to R121) and of the chunker (42_chunker.md R141):
each is one call of its operation in Ops. A refused operation and one that does not return are next states (R233, R247). -/

namespace Sys2Proof.Machine

/-- TX_BEGIN (R113). -/
def execTxBegin (addr cmd : Byte) (plen : Nat) (s : State) : Host.Outcome State Fault Refusal :=
  .next (txBegin addr cmd plen s)

/-- TX_CHUNK (R115). -/
def execTxChunk (bs : List Byte) (s : State) : Host.Outcome State Fault Refusal :=
  .next (txChunk bs s)

/-- TX_END (R117). -/
def execTxEnd (s : State) : Host.Outcome State Fault Refusal :=
  .next (txEnd s)

/-- TX_FRAME (R119). -/
def execTxFrame (addr cmd : Byte) (payload : List Byte) (s : State) : Host.Outcome State Fault Refusal :=
  .next (txFrame addr cmd payload s)

/-- TX_ACK (R120). -/
def execTxAck (addr status : Byte) (seq : Half) (value : Byte) (s : State) : Host.Outcome State Fault Refusal :=
  .next (txAck addr status seq value s)

/-- TX_FORMATSET (R121). -/
def execTxFormatSet (addr fmt : Byte) (width height : Half) (s : State) : Host.Outcome State Fault Refusal :=
  .next (txFormatSet addr fmt width height s)

/-- TX_IMAGE (R141). -/
def execTxImage (addr : Byte) (width height : Half) (s : State) : Host.Outcome State Fault Refusal :=
  .next (txImage addr width height s)

end Sys2Proof.Machine
end

