-- ==== Sys2Proof/Machine/Receive.lean ====
section
/-! DEFINITION. The operations of the receive channel and the decoder (43_receive_and_decode.md R160 to R180). -/

namespace Sys2Proof.Machine

/-- RX_BYTE (R160): no result, the producer is never told. -/
def execRxByte (b : Byte) (s : State) : Host.Outcome State Fault Refusal :=
  .next (rxByte b s)

/-- RX_BOUNDARY (R161). -/
def execRxBoundary (s : State) : Host.Outcome State Fault Refusal :=
  .next (rxBoundary s)

/-- RX_DECODE (R162). -/
def execRxDecode (s : State) : Host.Outcome State Fault Refusal :=
  .next ((rxDecode s).2.returning (.decoded (decodeOutcome s.cfg (rxDecode s).1)))

/-- RX_PROCESS (R180): the frames it hands over are the consumer's next turns (log 18). -/
def execRxProcess (s : State) : Host.Outcome State Fault Refusal :=
  let run := processLoop s.between s
  .next ({ run.state with agenda := run.handed.map Turn.request ++ run.state.agenda }.returning (.outcomes run.outcomes))

end Sys2Proof.Machine
end

