-- ==== Sys2Proof/Machine/Reset.lean ====
section
/-! DEFINITION. RESET (70_reset_and_hazards.md R260 to R262). -/

namespace Sys2Proof.Machine

/-- The engine's state as RESET leaves it (R28, R260): the configuration latched from its inputs, the flags and counts
cleared. What the spec leaves unspecified gets the reset values of logs 5 and 6. `TX_OUT` is not erased (R261 d); the
environment's state, its inputs and the agents' turns are not the engine's and stay; a controller that could not step is
released (92_eei_decisions.md D8, B8; log 15). -/
def State.engineReset (s : State) : State :=
  { s with
    cfg := s.cfgIn, crcAcc := 0, crcValid := false, txState := .idle, txCrc := 0, txRemain := 0, chunkBuf := [],
    rxBuf := [], rxCount := 0, rxReady := false, rxOvf := false, result := none, controller := .ready }

/-- RESET (R260): a configuration that breaks a constraint is refused, "the model gives such an engine no behaviour" (R262;
log 14). -/
def execReset (s : State) : Host.Outcome State Fault Refusal :=
  if configValid s.cfgIn then .next s.engineReset else .refused .invalidConfiguration

end Sys2Proof.Machine
end

