-- ==== Sys2Proof/Machine/Dispatch.lean ====
section
/-! DEFINITION. The dispatch: one arm per constructor, each one call of its meaning. -/

namespace Sys2Proof.Machine

def exec (i : Instr) (s : State) : Host.Outcome State Fault Refusal :=
  match i with
  | .crcLoad seed => Sys2Proof.Machine.execCrcLoad seed s
  | .crcByte b => Sys2Proof.Machine.execCrcByte b s
  | .crcBlock bs => Sys2Proof.Machine.execCrcBlock bs s
  | .crcRead => Sys2Proof.Machine.execCrcRead s
  | .txBegin addr cmd plen => Sys2Proof.Machine.execTxBegin addr cmd plen s
  | .txChunk bs => Sys2Proof.Machine.execTxChunk bs s
  | .txEnd => Sys2Proof.Machine.execTxEnd s
  | .txFrame addr cmd payload => Sys2Proof.Machine.execTxFrame addr cmd payload s
  | .txAck addr status seq value => Sys2Proof.Machine.execTxAck addr status seq value s
  | .txFormatSet addr fmt width height => Sys2Proof.Machine.execTxFormatSet addr fmt width height s
  | .txImage addr width height => Sys2Proof.Machine.execTxImage addr width height s
  | .rxByte b => Sys2Proof.Machine.execRxByte b s
  | .rxBoundary => Sys2Proof.Machine.execRxBoundary s
  | .rxDecode => Sys2Proof.Machine.execRxDecode s
  | .rxProcess => Sys2Proof.Machine.execRxProcess s
  | .reset => Sys2Proof.Machine.execReset s
  | .ack addr payload => Sys2Proof.Machine.execAck addr payload s
  | .formatSet addr payload => Sys2Proof.Machine.execFormatSet addr payload s
  | .imageData addr payload => Sys2Proof.Machine.execImageData addr payload s
  | .writeRegister addr payload => Sys2Proof.Machine.execWriteRegister addr payload s
  | .readRegister addr payload => Sys2Proof.Machine.execReadRegister addr payload s
  | .unknown addr cmd payload => Sys2Proof.Machine.execUnknown addr cmd payload s

end Sys2Proof.Machine
end

