-- ==== Sys2Proof/Machine/Transmitter.lean ====
section
/-! DEFINITION. The environment agents of 44_environment_agents.md that are not wire commands: the Streaming Transmitter's
handshake and streaming cycle (R208 to R213), and what the environment does to the engine's inputs. -/

namespace Sys2Proof.Machine

/-- The producer's events at the next boundary between primitive steps (R48; log 11). -/
def deliverNext (s : State) : State :=
  match s.between with
  | [] => s
  | g :: gs => rxEvents { s with between := gs } g

/-- The consumer services one handed frame (R204), unless its thread cannot step. -/
def serviceFrame (s : State) (r : Request) : State :=
  match r, s.controller with
  | .frame addr cmd payload, .ready => consume (dispatch s.cfg addr cmd payload) s
  | _, _ => s

/-- The consumer services the frames RX_PROCESS handed over, in order (R180, R204). -/
def serviceAll (s : State) (rs : List Request) : State := rs.foldl serviceFrame s

/-- One iteration of the handshake's loop (R208): one RX_PROCESS, whose frames are serviced. -/
def pollOnce (s : State) : State :=
  let s := deliverNext s
  let run := processLoop s.between s
  serviceAll { run.state with polls := run.state.polls + 1 } run.handed

/-- The handshake is over: it waits for no Ack any more and returns `o`. -/
def State.endHandshake (s : State) (o : Returned) : State := { s with waiting := false, result := some o }

/-- The loop of `negotiate`, the counter at `k` (R208, R209): an Ack the consumer took ends it. -/
def negotiateLoop : Nat → State → State
  | 0, s => s.endHandshake .handshakeTimeout
  | k + 1, s =>
    let s' := pollOnce s
    if s'.controller ≠ .ready then s'
    else if s'.waiting = false then s'.endHandshake .ok
    else negotiateLoop k s'

/-- `negotiate(addr, fmt, width, height)` (R208): FormatSet is sent once, then `RETRY_BUDGET` polls at most. -/
def negotiate (addr fmt : Byte) (width height : Half) (s : State) : State :=
  let s' := txFormatSet addr fmt width height s
  if s'.controller ≠ .ready then s'
  else negotiateLoop s'.envCfg.retryBudget { s' with waiting := true }

/-- The end of a streaming cycle: TX_IMAGE, then the handshake state its policy asks for (R213). -/
def streamImage (addr : Byte) (width height : Half) (s : State) : State :=
  let s' := txImage addr width height s
  if s'.controller = .ready ∧ s'.envCfg.negotiatePolicy = .everyFrame then { s' with handshake := .needsFormatAck } else s'

/-- `write_image(addr, fmt, width, height)` (R213, R211, R212). -/
def writeImage (addr fmt : Byte) (width height : Half) (s : State) : State :=
  match s.handshake with
  | .streaming => streamImage addr width height s
  | .needsFormatAck =>
    let s' := negotiate addr fmt width height s
    if s'.controller ≠ .ready then s'
    else if s'.result = some .handshakeTimeout ∧ s'.envCfg.failPolicy = .halt then s'
    else streamImage addr width height { s' with handshake := .streaming }

/-- What the environment does to the engine's inputs (R202, R247 a, R262; logs 9, 11 and 17). -/
def environmentActs (e : EnvEvent) (s : State) : State :=
  match e with
  | .configure c => { s with cfgIn := c }
  | .capture samples => { s with captureReady := true, pixels := samples }
  | .sinkHangs more => { s with sinkHangsAt := some (hangPoint s more) }
  | .producerPlan groups => { s with between := groups }

end Sys2Proof.Machine
end

