-- ==== Sys2Proof/Machine/Agenda.lean ====
section
/-! DEFINITION. One turn of an agent (10_state.md R10): decoding and running a request, running a procedure of the Streaming
Transmitter, or an act of the environment. -/

namespace Sys2Proof.Machine

/-- Why an instruction cannot run now: it is the controller's, and the controller's thread cannot step (R247). -/
def blocked (i : Instr) (s : State) : Option Fault :=
  if i.issuer = .controller then s.controller.fault else none

/-- A request is decoded and the instruction run. -/
def runRequest (r : Request) (s : State) : Host.Outcome State Fault Refusal :=
  match decode s.cfg.codes r with
  | .error e => .refused (.undecodable e)
  | .ok i =>
    match blocked i s with
    | some f => .fault f
    | none => exec i s

/-- A procedure of the Streaming Transmitter runs on the controller's thread. -/
def runProcedure (f : State → State) (s : State) : Host.Outcome State Fault Refusal :=
  match s.controller.fault with
  | some e => .fault e
  | none => .next (f s)

/-- One turn (R10). -/
def runTurn (t : Turn) (s : State) : Host.Outcome State Fault Refusal :=
  match t with
  | .request r => runRequest r s
  | .negotiate addr fmt width height => runProcedure (negotiate addr fmt width height) s
  | .writeImage addr fmt width height => runProcedure (writeImage addr fmt width height) s
  | .environment e => .next (environmentActs e s)

end Sys2Proof.Machine
end

