-- ==== Sys2Proof/Machine/Step.lean ====
section
/-! DEFINITION. One step of the machine: the oldest turn of the agenda. The engine has no program counter and fetches nothing
(10_state.md R22); with no turn waiting it waits for operations (70_reset_and_hazards.md R260; log 1). -/

namespace Sys2Proof.Machine

/-- One step. -/
def step (s : State) : Host.Outcome State Fault Refusal :=
  match s.agenda with
  | [] => .next s
  | t :: rest => runTurn t { s with agenda := rest }

/-- `s` with the table's word as the next turn: the instruction is handed in from outside, by a controller's thread that can
step (log 1). -/
def State.withFetchWord (s : State) (nbits w : Nat) : State :=
  { s with agenda := .request (tableRequest s.cfg.codes nbits w) :: s.agenda, controller := .ready }

end Sys2Proof.Machine
end

