-- ==== Sys2Proof/Safety.lean ====
section
/-! DEFINITION. The terms claims about the engine are stated in: sequences of operations, the invariants of the state
(10_state.md R27), and what an operation may change. -/

namespace Sys2Proof.Machine

/-! ### Sequences of operations -/

/-- Operations one after the other, each to completion before the next (R50). -/
def runAll : List Instr → State → Host.Outcome State Fault Refusal
  | [], s => .next s
  | i :: is, s =>
    match exec i s with
    | .next t => runAll is t
    | .fault f => .fault f
    | .refused r => .refused r

/-- `RX_FEED(s)`: the bytes of `bs`, then a boundary (R77). -/
def rxFeed (bs : List Byte) : List Instr := bs.map Instr.rxByte ++ [.rxBoundary]

/-- One payload in pieces: the header for the whole, a TX_CHUNK for each piece, TX_END (R116). -/
def txPieces (addr cmd : Byte) (pieces : List (List Byte)) : List Instr :=
  .txBegin addr cmd pieces.flatten.length :: pieces.map Instr.txChunk ++ [.txEnd]

/-- The transmit side can take and complete a new frame whose payload has `n` bytes: the sink returns from its last write, the
checksum's, and so from the earlier ones (R113, R112, R200). -/
def CanSend (s : State) (n : Nat) : Prop :=
  s.txState = .idle ∧ frameLength n ≤ maxLength ∧ s.sinkReturnsAt (10 + n) = true

/-- The sink returns from the header of an image frame and from its first `k` chunks; an empty chunk is no write (R141, R200,
D9). -/
def ChunksReturn (s : State) (height k : Nat) : Prop :=
  s.sinkReturnsAt 0 = true ∧ ∀ j, j < k → 0 < height → s.sinkReturnsAt (10 + 2 * height * j) = true

/-- A frame is open, `out` is what has gone out of it, header first, `left` payload bytes are to go, and the controller is
inside a write that the sink does not return from (R247 a). -/
def stuckInFrame (s : State) (out : List Byte) (left : Nat) : State :=
  { s with txOut := s.txOut ++ out, txCrc := crc16Update s.cfg.crcSeed out, txRemain := BitVec.ofNat 32 left,
           txState := .payload, controller := .waitingForSink, result := none }

/-- `bs` with bit `k % 8` of byte `k / 8` changed. -/
def flipBit (bs : List Byte) (k : Nat) : List Byte := bs.modify (k / 8) fun b => b ^^^ ((1 : Byte) <<< (k % 8))

/-- Two byte sequences exclusive-ored byte by byte (R99). -/
def xorBytes (s t : List Byte) : List Byte := List.zipWith (fun a b => a ^^^ b) s t

/-- An outcome with its next state, if it has one, changed by `f`. -/
def mapNext (f : State → State) : Host.Outcome State Fault Refusal → Host.Outcome State Fault Refusal
  | .next t => .next (f t)
  | .fault e => .fault e
  | .refused r => .refused r

/-- An operation of the CRC unit's software port (R94 to R97). -/
def isCrcPort : Instr → Bool
  | .crcLoad _ | .crcByte _ | .crcBlock _ | .crcRead => true
  | _ => false

/-- An operation of the encoder or the chunker (R110, R141). -/
def isTransmit : Instr → Bool
  | .txBegin _ _ _ | .txChunk _ | .txEnd | .txFrame _ _ _ | .txAck _ _ _ _ | .txFormatSet _ _ _ _ | .txImage _ _ _ => true
  | _ => false

/-! ### The decoder's tests, on the bytes of the buffer (R164 to R167) -/

/-- `RX_BUF[0..4)` equals the magic, byte by byte (R165). -/
def MagicHolds (s : State) : Prop :=
  readByte s.rxBuf 0 = s.cfg.magic.b0 ∧ readByte s.rxBuf 1 = s.cfg.magic.b1 ∧ readByte s.rxBuf 2 = s.cfg.magic.b2
    ∧ readByte s.rxBuf 3 = s.cfg.magic.b3

/-- `dec32(RX_BUF[5..9))` (R166). -/
def lengthField (s : State) : Nat :=
  (dec32 s.cfg.endian (readByte s.rxBuf 5) (readByte s.rxBuf 6) (readByte s.rxBuf 7) (readByte s.rxBuf 8)).toNat

/-- The length test passes (R166). -/
def LengthHolds (s : State) : Prop := lengthField s = s.rxCount ∧ 12 ≤ lengthField s ∧ s.rxOvf = false

/-- The checksum test passes (R167). -/
def ChecksumHolds (s : State) : Prop :=
  crc16Update s.cfg.crcSeed (readBytes s.rxBuf 0 (lengthField s - 2))
    = dec16 s.cfg.endian (readByte s.rxBuf (lengthField s - 2)) (readByte s.rxBuf (lengthField s - 1))

/-- The state after an RX_DECODE that discards or consumes the buffer and returns `o` (R168, R171). -/
def clearedWith (s : State) (o : DecodeOutcome) : State :=
  { s with rxReady := false, rxCount := 0, rxOvf := false, result := some (.decoded o) }

/-! ### Invariants -/

/-- The buffers are in canonical form and hold nothing at an index that does not exist (R16, R17, R40). -/
def BuffersOk (s : State) : Prop :=
  s.rxBuf.wf = true ∧ s.chunkBuf.wf = true ∧ s.rxBuf.below s.cfg.rxBufSize.val = true ∧ s.chunkBuf.below s.cfg.chunkMax = true

/-- R27 (a) and (b). -/
def ChannelOk (s : State) : Prop :=
  s.rxCount ≤ s.cfg.rxBufSize.val ∧ (s.rxOvf = true → s.rxCount = s.cfg.rxBufSize.val)

/-- What every step keeps: a legal configuration is latched (R5, R6, R262), and the buffers and the channel are in order. -/
def MachineInv (s : State) : Prop := configValid s.cfg = true ∧ BuffersOk s ∧ ChannelOk s

/-- A frame by its address, command and payload. -/
def frameOf (c : Configuration) (f : Byte × Byte × List Byte) : List Byte := frameBytes c f.1 f.2.1 f.2.2

/-- A concatenation of whole frames, each well-formed under `c` (R27 d, R60). -/
def WholeFrames (c : Configuration) (bs : List Byte) : Prop :=
  ∃ fs : List (Byte × Byte × List Byte), (∀ f ∈ fs, f.2.2.length ≤ maxPayload) ∧ bs = (fs.map (frameOf c)).flatten

/-- R27 (c): the frame in flight. `p` is the payload emitted since its header, `n` the payload length declared. -/
def FrameInFlight (s : State) : Prop :=
  ∃ (done p : List Byte) (addr cmd : Byte) (n : Nat),
    WholeFrames s.cfg done ∧ n ≤ maxPayload ∧ s.txOut = done ++ header s.cfg addr cmd n ++ p
      ∧ s.txCrc = crc16Update s.cfg.crcSeed (header s.cfg addr cmd n ++ p) ∧ s.txRemain.toNat + p.length = n

/-- R27 (c) and (d). -/
def TxInv (s : State) : Prop :=
  match s.txState with
  | .idle => WholeFrames s.cfg s.txOut
  | .payload => FrameInFlight s

/-- The next turn is no RESET that falls inside a frame or changes the configuration (R27 d, R261 a). -/
def NoResetInFrame (s : State) : Prop :=
  ∀ r rest, s.agenda = .request r :: rest → decode s.cfg.codes r = .ok .reset → s.txState = .idle ∧ s.cfgIn = s.cfg

/-- Two states that agree in everything the spec gives a value: they may differ in `CRC_ACC` while `CRC_VALID` is 0, in
`TX_CRC` and `TX_REMAIN` while `TX_STATE` is `IDLE`, in `CHUNK_BUF`, and in `RX_BUF` at and above `RX_COUNT` (R11, R14 to R17,
R28). -/
def Alike (s t : State) : Prop :=
  t = { s with crcAcc := t.crcAcc, txCrc := t.txCrc, txRemain := t.txRemain, chunkBuf := t.chunkBuf, rxBuf := t.rxBuf }
    ∧ (s.crcValid = true → t.crcAcc = s.crcAcc)
    ∧ (s.txState = .payload → t.txCrc = s.txCrc ∧ t.txRemain = s.txRemain)
    ∧ (∀ a, a < s.rxCount → readByte t.rxBuf a = readByte s.rxBuf a)
    ∧ s.rxBuf.wf = true ∧ t.rxBuf.wf = true ∧ s.chunkBuf.wf = true ∧ t.chunkBuf.wf = true

/-! ### What an operation may change -/

/-- `t` differs from `s` in the CRC port and the returned outcome at most (R11, R94 to R97). -/
def OnlyCrcPort (s t : State) : Prop := t = { s with crcAcc := t.crcAcc, crcValid := t.crcValid, result := t.result }

/-- `t` differs from `s` in the encoder's registers, `TX_OUT`, the returned outcome and whether the operation returned, at
most (R113, R115, R117). -/
def OnlyEncoder (s t : State) : Prop :=
  t = { s with txState := t.txState, txCrc := t.txCrc, txRemain := t.txRemain, txOut := t.txOut, result := t.result,
               controller := t.controller }

/-- `t` differs from `s` in what TX_IMAGE may change at most: the encoder's part, `CHUNK_BUF`, and the frame source (R141). -/
def OnlyChunker (s t : State) : Prop :=
  t = { s with txState := t.txState, txCrc := t.txCrc, txRemain := t.txRemain, txOut := t.txOut, result := t.result,
               controller := t.controller, chunkBuf := t.chunkBuf, pixels := t.pixels, captureReady := t.captureReady,
               consumedSignals := t.consumedSignals }

/-- `t` differs from `s` in the receive channel at most (R160, R161). -/
def OnlyChannel (s t : State) : Prop :=
  t = { s with rxBuf := t.rxBuf, rxCount := t.rxCount, rxReady := t.rxReady, rxOvf := t.rxOvf }

/-- `t` differs from `s` in the receive channel's flags and count and the returned outcome at most (R170). -/
def OnlyDecoder (s t : State) : Prop :=
  t = { s with rxCount := t.rxCount, rxReady := t.rxReady, rxOvf := t.rxOvf, result := t.result }

/-- `t` differs from `s` in what the consumer may change at most (R204 to R208): its own records, the handshake, and through
TX_ACK the encoder's part. -/
def OnlyConsumer (s t : State) : Prop :=
  t = { s with consumed := t.consumed, regWrites := t.regWrites, regReads := t.regReads, waiting := t.waiting,
               handshake := t.handshake, txState := t.txState, txCrc := t.txCrc, txRemain := t.txRemain, txOut := t.txOut,
               result := t.result, controller := t.controller }

end Sys2Proof.Machine
end

