-- ==== Sys2Proof/Certificates/Slice0/Obligations.lean ====
section
/-! DEFINITION. The statements for the provers. Each docstring names the rule of the spec it formalises. -/

open Sys2Proof Sys2Proof.Machine

/-! ### Encoding and stepping -/

/-- R75, R76: a step runs the decoded instruction of the oldest turn, with that turn taken off the agenda; the controller's own
instructions need a controller that can step. A turn of the Streaming Transmitter runs its procedure on the same thread (R208,
R213). A turn of the environment sets the engine's inputs: the configuration inputs (R262), the capture flag and the FIFO
(R202), where the sink stops returning (R247 a), what the producer will do (R48). The agenda and the environment's turns are the
model's (logs 1, 9, 11, 13, 17). -/
def Obligations.StepRunsDecodedRequest : Prop :=
  ∀ (s : State) (rest : List Turn),
    (∀ r i, s.agenda = .request r :: rest → decode s.cfg.codes r = .ok i → (i.issuer = .controller → s.controller = .ready) →
        step s = exec i { s with agenda := rest })
      ∧ (∀ addr fmt width height, s.controller = .ready →
          (s.agenda = .negotiate addr fmt width height :: rest →
              step s = .next (negotiate addr fmt width height { s with agenda := rest }))
            ∧ (s.agenda = .writeImage addr fmt width height :: rest →
              step s = .next (writeImage addr fmt width height { s with agenda := rest })))
      ∧ (∀ c, s.agenda = .environment (.configure c) :: rest → step s = .next { s with agenda := rest, cfgIn := c })
      ∧ (∀ samples, s.agenda = .environment (.capture samples) :: rest →
          step s = .next { s with agenda := rest, captureReady := true, pixels := samples })
      ∧ (∀ more, s.agenda = .environment (.sinkHangs more) :: rest →
          ∃ n, step s = .next { s with agenda := rest, sinkHangsAt := some n } ∧ n ≤ s.txOut.length + more
            ∧ (s.sinkHangsAt = none → n = s.txOut.length + more)
            ∧ (∀ m, s.sinkHangsAt = some m → n = min m (s.txOut.length + more)))
      ∧ ∀ groups, s.agenda = .environment (.producerPlan groups) :: rest →
          step s = .next { s with agenda := rest, between := groups }

/-- R260, R76, R247: with no turn the machine waits; a request that is no instruction is refused by name; a controller that
cannot step makes its turn a fault by name, an instruction's as much as a procedure's of the Streaming Transmitter. The agenda
and the faults are the model's (logs 1, 12, 13). -/
def Obligations.StepStopsByName : Prop :=
  ∀ (s : State) (rest : List Turn),
    (s.agenda = [] → step s = .next s)
      ∧ (∀ r e, s.agenda = .request r :: rest → decode s.cfg.codes r = .error e → step s = .refused (.undecodable e))
      ∧ ∀ f, (s.controller = .waitingForPixels ∧ f = .pixelSourceShort)
              ∨ (s.controller = .waitingForSink ∧ f = .sinkNeverReturns) →
          (∀ r i, s.agenda = .request r :: rest → decode s.cfg.codes r = .ok i → i.issuer = .controller → step s = .fault f)
            ∧ (∀ addr fmt width height, s.agenda = .negotiate addr fmt width height :: rest → step s = .fault f)
            ∧ (∀ addr fmt width height, s.agenda = .writeImage addr fmt width height :: rest → step s = .fault f)

/-- R75, R76, R64: words written out from the tables, one of each shape. The operand layout is the model's (log 2). -/
def Obligations.SampleWordsDecode : Prop :=
  decodeOperation [0x40, 0xFF, 0xFE] = .ok (.crcLoad 0xFFFE)
    ∧ decodeOperation [0x42, 0x31, 0x32] = .ok (.crcBlock [0x31, 0x32])
    ∧ decodeOperation [0x50, 0x01, 0x02, 0x08] = .ok (.txBegin 0x01 0x02 8)
    ∧ decodeOperation [0x54, 0x01, 0x00, 0xBE, 0xEF, 0x34] = .ok (.txAck 0x01 0x00 0xBEEF 0x34)
    ∧ decodeOperation [0x56, 0x01, 0x00, 0x02, 0x00, 0x03] = .ok (.txImage 0x01 2 3)
    ∧ decodeOperation [0x60, 0xA1] = .ok (.rxByte 0xA1)
    ∧ decodeOperation [0x7F] = .ok .reset
    ∧ decodeFrame .default 0x01 0x10 [0x12, 0x34] = .writeRegister 0x01 [0x12, 0x34]
    ∧ decodeFrame .default 0x01 0x7F [0xAA] = .unknown 0x01 0x7F [0xAA]

/-- R76: the select code of each operation, and "every other select code is unassigned; a model refuses it". -/
def Obligations.SelectCodes : Prop :=
  (∀ (codes : CommandCodes) (w h : Half) (a b c : Byte) (n : Nat) (bs : List Byte),
      selectByte codes (.crcLoad w) = 0x40 ∧ selectByte codes (.crcByte a) = 0x41 ∧ selectByte codes (.crcBlock bs) = 0x42
        ∧ selectByte codes .crcRead = 0x43 ∧ selectByte codes (.txBegin a b n) = 0x50
        ∧ selectByte codes (.txChunk bs) = 0x51 ∧ selectByte codes .txEnd = 0x52 ∧ selectByte codes (.txFrame a b bs) = 0x53
        ∧ selectByte codes (.txAck a b w c) = 0x54 ∧ selectByte codes (.txFormatSet a b w h) = 0x55
        ∧ selectByte codes (.txImage a w h) = 0x56 ∧ selectByte codes (.rxByte a) = 0x60
        ∧ selectByte codes .rxBoundary = 0x61 ∧ selectByte codes .rxDecode = 0x62 ∧ selectByte codes .rxProcess = 0x63
        ∧ selectByte codes .reset = 0x7F)
    ∧ (∀ (codes : CommandCodes) (i : Instr) (ops : List Byte) (sel : Byte),
        decodeOperation (sel :: ops) = .ok i → sel = selectByte codes i)
    ∧ (∀ (sel : Byte) (ops : List Byte),
        sel ∉ [0x40, 0x41, 0x42, 0x43, 0x50, 0x51, 0x52, 0x53, 0x54, 0x55, 0x56, 0x60, 0x61, 0x62, 0x63, 0x7F] →
          decodeOperation (sel :: ops) = .error (.unassignedSelect sel)
            ∧ ∀ (s : State) (rest : List Turn), s.agenda = .request (.operation (sel :: ops)) :: rest →
                step s = .refused (.undecodable (.unassignedSelect sel)))

/-- R75, R76, R172: under distinct command codes (R6) every well-formed instruction decodes from what it encodes to, whatever
its operands. The operand layout is the model's (log 2). -/
def Obligations.DecodeEncode : Prop :=
  ∀ (codes : CommandCodes) (i : Instr), codes.distinct = true → wellFormed codes i = true →
    decode codes (encode codes i) = .ok i

/-- R75: no two instructions are written alike, and a request that decodes is one whose operation and operands the encoder
gives back (TX_BEGIN's count may be written with leading zero digits). The operand layout is the model's (log 2). -/
def Obligations.DecodedRequestReencodes : Prop :=
  ∀ (codes : CommandCodes) (bytes : List Byte) (i : Instr), decodeOperation bytes = .ok i →
    (∀ addr cmd plen, i ≠ .txBegin addr cmd plen) → encode codes i = .operation bytes

/-! ### Fields and frames -/

/-- R62: how the fields are assembled, and that `enc` and `dec` are inverse, under both byte orders. -/
def Obligations.FieldsAssemble : Prop :=
  (∀ s0 s1 : Byte, (dec16 .be s0 s1).toNat = s0.toNat * 256 + s1.toNat ∧ (dec16 .le s0 s1).toNat = s1.toNat * 256 + s0.toNat)
    ∧ (∀ s0 s1 s2 s3 : Byte,
        (dec32 .be s0 s1 s2 s3).toNat = s0.toNat * 2 ^ 24 + s1.toNat * 2 ^ 16 + s2.toNat * 2 ^ 8 + s3.toNat
          ∧ (dec32 .le s0 s1 s2 s3).toNat = s3.toNat * 2 ^ 24 + s2.toNat * 2 ^ 16 + s1.toNat * 2 ^ 8 + s0.toNat)
    ∧ (∀ (e : WireEndian) (v : Half), ∃ s0 s1, enc16 e v = [s0, s1] ∧ dec16 e s0 s1 = v)
    ∧ (∀ (e : WireEndian) (s0 s1 : Byte), enc16 e (dec16 e s0 s1) = [s0, s1])
    ∧ (∀ (e : WireEndian) (v : Word), ∃ s0 s1 s2 s3, enc32 e v = [s0, s1, s2, s3] ∧ dec32 e s0 s1 s2 s3 = v)
    ∧ (∀ (e : WireEndian) (s0 s1 s2 s3 : Byte), enc32 e (dec32 e s0 s1 s2 s3) = [s0, s1, s2, s3])

/-- R60, R61, R63: every field of `FRAME(addr, cmd, payload)` is at its offset: the magic, the address, the length that counts
the whole frame, the command, the payload, and the checksum over every byte before it. -/
def Obligations.FrameLayout : Prop :=
  ∀ (c : Configuration) (addr cmd : Byte) (payload : List Byte), payload.length ≤ 4294967283 →
    let f := frameBytes c addr cmd payload
    f.length = payload.length + 12
      ∧ f.take 4 = [c.magic.b0, c.magic.b1, c.magic.b2, c.magic.b3]
      ∧ byteAt f 4 = addr
      ∧ (dec32 c.endian (byteAt f 5) (byteAt f 6) (byteAt f 7) (byteAt f 8)).toNat = f.length
      ∧ byteAt f 9 = cmd
      ∧ slice f 10 (f.length - 2) = payload
      ∧ dec16 c.endian (byteAt f (f.length - 2)) (byteAt f (f.length - 1)) = crc16Update c.crcSeed (f.take (f.length - 2))

/-! ### The CRC unit -/

/-- R94, R95, R97: CRC_LOAD, CRC_BYTE and CRC_READ, loaded and not loaded; nothing else changes. -/
def Obligations.CrcPortResults : Prop :=
  ∀ s : State,
    (∀ seed, exec (.crcLoad seed) s = .next { s with crcAcc := seed, crcValid := true, result := some .ok })
      ∧ (s.crcValid = true →
          (∀ b, exec (.crcByte b) s = .next { s with crcAcc := crc16Byte s.crcAcc b, result := some .ok })
            ∧ exec .crcRead s = .next { s with result := some (.value s.crcAcc) })
      ∧ (s.crcValid = false →
          (∀ b, exec (.crcByte b) s = .next { s with result := some (.refused .crcNotLoaded) })
            ∧ exec .crcRead s = .next { s with result := some (.refused .crcNotLoaded) })

/-- R96: CRC_BLOCK: refused before a load; otherwise it is exactly `len(s)` successive CRC_BYTE operations, one CRC_BLOCK for
each piece of a sequence leaves what one over the whole leaves, and the empty sequence changes nothing and returns Ok. -/
def Obligations.CrcBlockResult : Prop :=
  ∀ s : State,
    (s.crcValid = false → ∀ bs, exec (.crcBlock bs) s = .next { s with result := some (.refused .crcNotLoaded) })
      ∧ (s.crcValid = true →
          (∀ bs, exec (.crcBlock bs) s = .next { s with crcAcc := crc16Update s.crcAcc bs, result := some .ok })
            ∧ (∀ bs, bs ≠ [] → runAll (bs.map Instr.crcByte) s = exec (.crcBlock bs) s)
            ∧ (∀ pieces, pieces ≠ [] → runAll (pieces.map Instr.crcBlock) s = exec (.crcBlock pieces.flatten) s)
            ∧ exec (.crcBlock []) s = .next { s with result := some .ok })

/-- R90: `crc16_byte` bit by bit: the byte enters the low 8 bits; then eight times the value is shifted right, a zero entering
at bit 15, and `0xA001` (bits 0, 13 and 15) is exclusive-ored in where the bit shifted out was 1. -/
def Obligations.CrcByteBitSerial : Prop :=
  ∀ (acc : Half) (b : Byte), ∃ a : Nat → Half,
    a 0 = acc ^^^ b.setWidth 16
      ∧ (∀ n, n < 8 → ∀ k, k < 16 →
          (a (n + 1)).getLsbD k
            = ((decide (k < 15) && (a n).getLsbD (k + 1)) ^^ ((a n).getLsbD 0 && (k == 0 || k == 13 || k == 15))))
      ∧ a 8 = crc16Byte acc b

/-- R92: resumability, for two pieces and for any number of them. -/
def Obligations.CrcResumable : Prop :=
  (∀ (seed : Half) (as bs : List Byte), crc16Update (crc16Update seed as) bs = crc16Update seed (as ++ bs))
    ∧ ∀ (seed : Half) (pieces : List (List Byte)), pieces.foldl crc16Update seed = crc16Update seed pieces.flatten

/-- 40_crc_engine.md section 2, facts (a), (b) and (c), which the spec marks as derived: the table form of the byte step; for a
fixed byte it is a bijection on accumulators, for a fixed accumulator injective in the byte; linearity over exclusive-or. -/
def Obligations.CrcAlgebra : Prop :=
  (∀ (acc : Half) (b : Byte), crc16Byte acc b = (acc >>> 8) ^^^ crc16Byte 0 ((acc ^^^ b.setWidth 16).setWidth 8))
    ∧ (∀ b : Byte, Function.Bijective fun acc => crc16Byte acc b)
    ∧ (∀ acc : Half, Function.Injective fun b => crc16Byte acc b)
    ∧ ∀ (a c : Half) (s t : List Byte), s.length = t.length →
        crc16Update (a ^^^ c) (xorBytes s t) = crc16Update a s ^^^ crc16Update c t

/-- 40_crc_engine.md section 2, fact (d), which the spec marks as derived: changing exactly one bit changes the CRC. -/
def Obligations.CrcDetectsOneBit : Prop :=
  ∀ (seed : Half) (s : List Byte) (k : Nat), k < 8 * s.length → crc16Update seed (flipBit s k) ≠ crc16Update seed s

/-! ### The encoder -/

/-- R113, R111, R112: TX_BEGIN: the refusals in their order, and the header, `TX_CRC`, `TX_REMAIN` and `TX_STATE`. -/
def Obligations.TxBeginResult : Prop :=
  ∀ (s : State) (addr cmd : Byte) (plen : Nat),
    (s.txState = .payload → exec (.txBegin addr cmd plen) s = .next { s with result := some (.refused .txBusy) })
      ∧ (s.txState = .idle → 2 ^ 32 - 1 < 10 + plen + 2 →
          exec (.txBegin addr cmd plen) s = .next { s with result := some (.refused .txLengthOverflow) })
      ∧ (s.txState = .idle → 10 + plen + 2 ≤ 2 ^ 32 - 1 → s.sinkReturnsAt 0 = true →
          let h := [s.cfg.magic.b0, s.cfg.magic.b1, s.cfg.magic.b2, s.cfg.magic.b3, addr]
                     ++ enc32 s.cfg.endian (BitVec.ofNat 32 (10 + plen + 2)) ++ [cmd]
          exec (.txBegin addr cmd plen) s
            = .next { s with txOut := s.txOut ++ h, txCrc := crc16Update s.cfg.crcSeed h, txRemain := BitVec.ofNat 32 plen,
                             txState := .payload, result := some .ok })

/-- R115: TX_CHUNK: the refusals in their order, and what goes out. -/
def Obligations.TxChunkResult : Prop :=
  ∀ (s : State) (bs : List Byte),
    (s.txState = .idle → exec (.txChunk bs) s = .next { s with result := some (.refused .txNotOpen) })
      ∧ (s.txState = .payload → s.txRemain.toNat < bs.length →
          exec (.txChunk bs) s = .next { s with result := some (.refused .txOverrun) })
      ∧ (s.txState = .payload → bs.length ≤ s.txRemain.toNat → s.sinkReturnsAt 0 = true ∨ bs = [] →
          ∃ r : Word, r.toNat = s.txRemain.toNat - bs.length
            ∧ exec (.txChunk bs) s
                = .next { s with txOut := s.txOut ++ bs, txCrc := crc16Update s.txCrc bs, txRemain := r, result := some .ok })

/-- R117: TX_END: the refusals in their order, the checksum in the configured byte order, and the encoder idle again. -/
def Obligations.TxEndResult : Prop :=
  ∀ s : State,
    (s.txState = .idle → exec .txEnd s = .next { s with result := some (.refused .txNotOpen) })
      ∧ (s.txState = .payload → s.txRemain ≠ 0 → exec .txEnd s = .next { s with result := some (.refused .txUnderrun) })
      ∧ (s.txState = .payload → s.txRemain = 0 → s.sinkReturnsAt 0 = true →
          exec .txEnd s
            = .next { s with txOut := s.txOut ++ enc16 s.cfg.endian s.txCrc, txState := .idle, result := some .ok })

/-- R119: TX_FRAME: its two refusals, and the whole frame on `TX_OUT`: header, payload, checksum over both. -/
def Obligations.TxFrameResult : Prop :=
  ∀ (s : State) (addr cmd : Byte) (payload : List Byte),
    (s.txState = .payload → exec (.txFrame addr cmd payload) s = .next { s with result := some (.refused .txBusy) })
      ∧ (s.txState = .idle → 2 ^ 32 - 1 < 10 + payload.length + 2 →
          exec (.txFrame addr cmd payload) s = .next { s with result := some (.refused .txLengthOverflow) })
      ∧ (CanSend s payload.length →
          let body := header s.cfg addr cmd payload.length ++ payload
          let crc := crc16Update s.cfg.crcSeed body
          exec (.txFrame addr cmd payload) s
            = .next { s with txOut := s.txOut ++ (body ++ enc16 s.cfg.endian crc), txCrc := crc, txRemain := 0,
                             result := some .ok })

/-- R120, R121: TX_ACK and TX_FORMATSET build their payloads, in the configured byte order, and are TX_FRAME with the
configured command code; TxLengthOverflow cannot occur. -/
def Obligations.TxAckFormatSetResult : Prop :=
  ∀ (s : State) (addr x y : Byte) (v w : Half),
    let ackP := [x] ++ enc16 s.cfg.endian v ++ [y]
    let fmtP := [x] ++ enc16 s.cfg.endian v ++ enc16 s.cfg.endian w
    (s.txState = .payload →
        exec (.txAck addr x v y) s = .next { s with result := some (.refused .txBusy) }
          ∧ exec (.txFormatSet addr x v w) s = .next { s with result := some (.refused .txBusy) })
      ∧ (CanSend s 4 →
          exec (.txAck addr x v y) s
            = .next { s with txOut := s.txOut ++ frameBytes s.cfg addr s.cfg.codes.ack ackP,
                             txCrc := crc16Update s.cfg.crcSeed (header s.cfg addr s.cfg.codes.ack 4 ++ ackP),
                             txRemain := 0, result := some .ok })
      ∧ (CanSend s 5 →
          exec (.txFormatSet addr x v w) s
            = .next { s with txOut := s.txOut ++ frameBytes s.cfg addr s.cfg.codes.formatSet fmtP,
                             txCrc := crc16Update s.cfg.crcSeed (header s.cfg addr s.cfg.codes.formatSet 5 ++ fmtP),
                             txRemain := 0, result := some .ok })
      ∧ exec (.txAck addr x v y) s = exec (.txFrame addr s.cfg.codes.ack ackP) s
      ∧ exec (.txFormatSet addr x v w) s = exec (.txFrame addr s.cfg.codes.formatSet fmtP) s

/-- 41_frame_encoder.md section 2, which the spec marks as derived: the split of a payload into pieces, empty ones among them,
does not show: TX_BEGIN, a TX_CHUNK for each piece and TX_END leave exactly what TX_FRAME of the whole payload leaves. -/
def Obligations.PiecesDoNotShow : Prop :=
  ∀ (s : State) (addr cmd : Byte) (pieces : List (List Byte)), CanSend s pieces.flatten.length →
    runAll (txPieces addr cmd pieces) s = exec (.txFrame addr cmd pieces.flatten) s

/-- R247 (a): a byte sink that never returns leaves the controller without a step, inside whichever write it hangs in: each
primitive's own; of TX_FRAME, and so of TX_ACK and TX_FORMATSET, the header's, the payload's or the checksum's; of TX_IMAGE the
header's, a chunk's or the checksum's. What went out before stays out, a frame whose header is out stays open, nothing is
returned. That the write which hangs hands no byte over is the model's choice (log 13). -/
def Obligations.HungSinkStopsTheController : Prop :=
  ∀ (s : State) (addr cmd y : Byte) (v w : Half) (payload : List Byte),
    let stuck : Host.Outcome State Fault Refusal := .next { s with controller := .waitingForSink, result := none }
    (s.sinkReturnsAt 0 = false →
        (s.txState = .idle → frameLength payload.length ≤ maxLength →
            exec (.txBegin addr cmd payload.length) s = stuck ∧ exec (.txFrame addr cmd payload) s = stuck)
          ∧ (s.txState = .idle → exec (.txAck addr cmd v y) s = stuck ∧ exec (.txFormatSet addr cmd v w) s = stuck)
          ∧ (s.txState = .idle → s.captureReady = true → frameLength (v.toNat * w.toNat * 2) ≤ maxLength →
              2 * w.toNat ≤ s.cfg.chunkMax → exec (.txImage addr v w) s = stuck)
          ∧ (s.txState = .payload → payload ≠ [] → payload.length ≤ s.txRemain.toNat → exec (.txChunk payload) s = stuck)
          ∧ (s.txState = .payload → s.txRemain = 0 → exec .txEnd s = stuck))
      ∧ (s.txState = .idle → frameLength payload.length ≤ maxLength → s.sinkReturnsAt 0 = true →
          (payload ≠ [] → s.sinkReturnsAt 10 = false →
              exec (.txFrame addr cmd payload) s
                = .next (stuckInFrame s (header s.cfg addr cmd payload.length) payload.length))
            ∧ (payload = [] ∨ s.sinkReturnsAt 10 = true → s.sinkReturnsAt (10 + payload.length) = false →
              exec (.txFrame addr cmd payload) s = .next (stuckInFrame s (frameBody s.cfg addr cmd payload) 0)))
      ∧ ∀ k, s.txState = .idle → s.captureReady = true → frameLength (v.toNat * w.toNat * 2) ≤ maxLength →
          2 * w.toNat ≤ s.cfg.chunkMax → s.chunkBuf.wf = true → k ≤ v.toNat → (k < v.toNat → 0 < w.toNat) →
          min (k + 1) v.toNat * w.toNat ≤ s.pixels.length → ChunksReturn s w.toNat k →
          s.sinkReturnsAt (10 + 2 * w.toNat * k) = false →
            let out := header s.cfg addr s.cfg.codes.imageData (v.toNat * w.toNat * 2)
                         ++ samplesBytes s.cfg.endian (s.pixels.take (k * w.toNat))
            ∃ buf, exec (.txImage addr v w) s
              = .next { stuckInFrame s out ((v.toNat - k) * w.toNat * 2) with
                        pixels := s.pixels.drop (min (k + 1) v.toNat * w.toNat), chunkBuf := buf }

/-! ### The chunker -/

/-- R145, R142, R147, R237: how TX_IMAGE is turned away, in the order of its tests: capture not ready (NotReady, nothing done,
whatever else holds); a frame open; length overflow, exactly where `width * height > 2147483641`; a scanline larger than the
chunk buffer. -/
def Obligations.TxImageTurnedAway : Prop :=
  ∀ (s : State) (addr : Byte) (width height : Half),
    (s.captureReady = false → exec (.txImage addr width height) s = .next { s with result := some .notReady })
      ∧ (s.captureReady = true → s.txState = .payload → exec (.txImage addr width height) s = .next { s with result := some (.refused .txBusy) })
      ∧ (s.captureReady = true → s.txState = .idle → 2147483641 < width.toNat * height.toNat →
          exec (.txImage addr width height) s = .next { s with result := some (.refused .txLengthOverflow) })
      ∧ (s.captureReady = true → s.txState = .idle → width.toNat * height.toNat ≤ 2147483641 →
          s.cfg.chunkMax < 2 * height.toNat →
          exec (.txImage addr width height) s = .next { s with result := some (.refused .txChunkTooLarge) })

/-- 42_chunker.md, the rule on the monolithic form, which the spec marks as derived: a TX_IMAGE that is not turned away and
whose source has the samples sends the one frame TX_FRAME would send for them in stream order, takes exactly those samples,
sends the consumed signal once, lowers the flag (log 17), and changes nothing but the chunk buffer below `2 * height` besides. -/
def Obligations.TxImageSendsTheImage : Prop :=
  ∀ (s : State) (addr : Byte) (width height : Half),
    s.captureReady = true → CanSend s (width.toNat * height.toNat * 2) → 2 * height.toNat ≤ s.cfg.chunkMax →
    width.toNat * height.toNat ≤ s.pixels.length → s.chunkBuf.wf = true →
      let payload := samplesBytes s.cfg.endian (s.pixels.take (width.toNat * height.toNat))
      ∃ t, exec (.txImage addr width height) s = .next t
        ∧ payload.length = width.toNat * height.toNat * 2
        ∧ t = { s with txOut := s.txOut ++ frameBytes s.cfg addr s.cfg.codes.imageData payload,
                       txCrc := crc16Update s.cfg.crcSeed (frameBody s.cfg addr s.cfg.codes.imageData payload), txRemain := 0,
                       pixels := s.pixels.drop (width.toNat * height.toNat), captureReady := false,
                       consumedSignals := s.consumedSignals + 1, result := some .ok, chunkBuf := t.chunkBuf }
        ∧ (∀ a, 2 * height.toNat ≤ a → readByte t.chunkBuf a = readByte s.chunkBuf a)
        ∧ (width.toNat = 0 → t.chunkBuf = s.chunkBuf)
        ∧ (0 < width.toNat →
            readBytes t.chunkBuf 0 (2 * height.toNat)
              = samplesBytes s.cfg.endian ((s.pixels.drop ((width.toNat - 1) * height.toNat)).take height.toNat))

/-- R146: the consumed signal is issued exactly once by a TX_IMAGE that returned Ok, which has handed the whole frame, its
checksum included, to the sink; and never by one that returned NotReady, was refused or did not return. -/
def Obligations.ConsumedSignalOnlyAfterTheFrame : Prop :=
  ∀ (s t : State) (addr : Byte) (width height : Half), exec (.txImage addr width height) s = .next t →
    (t.result = some .ok → t.consumedSignals = s.consumedSignals + 1 ∧ t.txState = .idle
        ∧ ∃ payload, payload.length = width.toNat * height.toNat * 2
          ∧ t.txOut = s.txOut ++ frameBytes s.cfg addr s.cfg.codes.imageData payload)
      ∧ (t.result ≠ some .ok → t.consumedSignals = s.consumedSignals)

/-- R149, R247 (b): a pixel source that runs short after `k` whole chunks leaves the frame open with the header and those
chunks out; the operation returns nothing, and no turn of the controller's thread, an instruction's or a procedure's, can follow until a RESET, which finds the bytes still
on the wire. That the controller's turn is then a fault is the model's (log 12). -/
def Obligations.ShortPixelSourceLeavesTheFrameOpen : Prop :=
  ∀ (s : State) (addr : Byte) (width height : Half) (k : Nat),
    s.captureReady = true → s.txState = .idle → frameLength (width.toNat * height.toNat * 2) ≤ maxLength →
    ChunksReturn s height.toNat k → 2 * height.toNat ≤ s.cfg.chunkMax → s.chunkBuf.wf = true → k < width.toNat → k * height.toNat ≤ s.pixels.length →
    s.pixels.length < (k + 1) * height.toNat →
      ∃ t, exec (.txImage addr width height) s = .next t
        ∧ t.txState = .payload ∧ t.result = none ∧ t.consumedSignals = s.consumedSignals
        ∧ t.txOut = s.txOut ++ header s.cfg addr s.cfg.codes.imageData (width.toNat * height.toNat * 2)
                      ++ samplesBytes s.cfg.endian (s.pixels.take (k * height.toNat))
        ∧ t.pixels = s.pixels.drop (k * height.toNat)
        ∧ (∀ r rest i, decode t.cfg.codes r = .ok i → i.issuer = .controller →
            step { t with agenda := .request r :: rest } = .fault .pixelSourceShort)
        ∧ (∀ (a fmt : Byte) (w h : Half) rest,
            step { t with agenda := .negotiate a fmt w h :: rest } = .fault .pixelSourceShort
              ∧ step { t with agenda := .writeImage a fmt w h :: rest } = .fault .pixelSourceShort)
        ∧ (configValid t.cfgIn = true →
            ∃ u, exec .reset t = .next u ∧ u.controller = .ready ∧ u.txState = .idle ∧ u.txOut = t.txOut)

/-! ### The receive channel and the decoder -/

/-- R160, R161: RX_BYTE: with room the byte lands at index `RX_COUNT` and no other byte changes; with the buffer full it is
dropped and `RX_OVF` is set; the same whether `RX_READY` is 0 or 1. RX_BOUNDARY sets the flag and does nothing else. -/
def Obligations.ProducerEventResults : Prop :=
  ∀ (s : State) (b : Byte), s.rxBuf.wf = true →
    (s.rxCount < s.cfg.rxBufSize.val →
        ∃ m, exec (.rxByte b) s = .next { s with rxBuf := m, rxCount := s.rxCount + 1 }
          ∧ readByte m s.rxCount = b ∧ (∀ a, a ≠ s.rxCount → readByte m a = readByte s.rxBuf a) ∧ m.wf = true)
      ∧ (s.cfg.rxBufSize.val ≤ s.rxCount → exec (.rxByte b) s = .next { s with rxOvf := true })
      ∧ exec .rxBoundary s = .next { s with rxReady := true }

/-- R163, R164: with the flag down NoFrame and nothing changes, whatever `RX_COUNT` is; with the flag up every attempt lowers
it; fewer than 10 bytes give IncompleteFrame, and the buffer is kept. -/
def Obligations.RxDecodeFlagAndSize : Prop :=
  ∀ s : State,
    (s.rxReady = false → exec .rxDecode s = .next { s with result := some (.decoded .noFrame) })
      ∧ (s.rxReady = true → ∃ t o, exec .rxDecode s = .next t ∧ t.rxReady = false ∧ t.result = some (.decoded o) ∧ o ≠ .noFrame)
      ∧ (s.rxReady = true → s.rxCount < 10 →
          exec .rxDecode s = .next { s with rxReady := false, result := some (.decoded .incompleteFrame) })

/-- R165: a leading byte that differs from the magic: BadMagic, with discard, whatever length and checksum are. -/
def Obligations.RxDecodeBadMagic : Prop :=
  ∀ s : State, s.rxReady = true → 10 ≤ s.rxCount → ¬ MagicHolds s →
    exec .rxDecode s = .next (clearedWith s .badMagic)

/-- R166: a declared length that is not the byte count, or below 12, or an overflowed buffer: LengthMismatch, with discard. -/
def Obligations.RxDecodeLengthMismatch : Prop :=
  ∀ s : State, s.rxReady = true → 10 ≤ s.rxCount → MagicHolds s →
    (lengthField s ≠ s.rxCount ∨ lengthField s < 12 ∨ s.rxOvf = true) →
      exec .rxDecode s = .next (clearedWith s .lengthMismatch)

/-- R167: a checksum that differs from the CRC of every byte before it: ChecksumMismatch, with discard. -/
def Obligations.RxDecodeChecksumMismatch : Prop :=
  ∀ s : State, s.rxReady = true → MagicHolds s → LengthHolds s → ¬ ChecksumHolds s →
    exec .rxDecode s = .next (clearedWith s .checksumMismatch)

/-- R168, R171: all tests passed: the frame's address, command and payload are dispatched and the buffer is consumed. -/
def Obligations.RxDecodeAccepts : Prop :=
  ∀ s : State, s.rxReady = true → MagicHolds s → LengthHolds s → ChecksumHolds s →
    exec .rxDecode s
      = .next (clearedWith s (.dispatched
          (dispatch s.cfg (readByte s.rxBuf 4) (readByte s.rxBuf 9) (readBytes s.rxBuf 10 (lengthField s - 12)))))

/-- R172 to R177, R179, R181: under distinct codes `dispatch` selects by the command byte: an Ack is accepted with any
payload, its view only with four bytes; the other four commands give their fields where the payload has its size and Unknown
where it has not; any other command byte gives Unknown. -/
def Obligations.DispatchByCommand : Prop :=
  ∀ (c : Configuration) (addr : Byte) (payload : List Byte), c.codes.distinct = true →
    (∃ view, (∀ x s0 s1 y, payload = [x, s0, s1, y] → view = some ⟨x, dec16 c.endian s0 s1, y⟩)
        ∧ (payload.length ≠ 4 → view = none) ∧ dispatch c addr c.codes.ack payload = .ack addr payload view)
      ∧ (∀ fmt w0 w1 h0 h1, payload = [fmt, w0, w1, h0, h1] →
          dispatch c addr c.codes.formatSet payload = .formatSet addr fmt (dec16 c.endian w0 w1) (dec16 c.endian h0 h1))
      ∧ (payload.length ≠ 5 → dispatch c addr c.codes.formatSet payload = .unknown addr c.codes.formatSet)
      ∧ (payload.length % 2 = 0 → ∃ samples : List Half, 2 * samples.length = payload.length
          ∧ (∀ k, k < samples.length →
              samples[k]? = some (dec16 c.endian (byteAt payload (2 * k)) (byteAt payload (2 * k + 1))))
          ∧ dispatch c addr c.codes.imageData payload = .imageData addr payload samples)
      ∧ (payload.length % 2 = 1 → dispatch c addr c.codes.imageData payload = .unknown addr c.codes.imageData)
      ∧ (∀ x y, payload = [x, y] → dispatch c addr c.codes.writeReg payload = .writeRegister addr x y)
      ∧ (payload.length ≠ 2 → dispatch c addr c.codes.writeReg payload = .unknown addr c.codes.writeReg)
      ∧ (∀ s0 s1 x, payload = [s0, s1, x] →
          dispatch c addr c.codes.readReg payload = .readRegister addr (dec16 c.endian s0 s1) x)
      ∧ (payload.length ≠ 3 → dispatch c addr c.codes.readReg payload = .unknown addr c.codes.readReg)
      ∧ ∀ cmd, cmd ≠ c.codes.ack → cmd ≠ c.codes.formatSet → cmd ≠ c.codes.imageData → cmd ≠ c.codes.writeReg →
          cmd ≠ c.codes.readReg → dispatch c addr cmd payload = .unknown addr cmd

/-- R180: RX_PROCESS with the producer quiet between its iterations: with the flag down the list is empty and nothing else
changes; with the flag up it makes exactly one attempt, the one RX_DECODE would make, and hands an accepted frame to the
consumer as its next turn (log 18). -/
def Obligations.RxProcessQuietProducer : Prop :=
  ∀ s : State, s.between = [] →
    (s.rxReady = false → exec .rxProcess s = .next { s with result := some (.outcomes []) })
      ∧ (s.rxReady = true → ∃ t o, exec .rxDecode s = .next t ∧ t.result = some (.decoded o)
          ∧ exec .rxProcess s
              = .next { t with agenda := (checkBuffer s).handed.map Turn.request ++ s.agenda,
                               result := some (.outcomes [o]) })

/-- R180, R48: with the producer acting between its iterations RX_PROCESS still ends, with the flag down; its list holds no
NoFrame and at most one outcome more than there were gaps for the producer. With the flag up and the producer's events `g` in
the first gap, it makes RX_DECODE's attempt, lists its outcome whatever that is, an error included, and then does what RX_PROCESS
does after those events. The gaps are the model's plan of the producer (log 11), the handing over its turns (log 18). -/
def Obligations.RxProcessEnds : Prop :=
  ∀ s : State,
    (∃ t os, exec .rxProcess s = .next t ∧ t.result = some (.outcomes os) ∧ t.rxReady = false
        ∧ DecodeOutcome.noFrame ∉ os ∧ os.length ≤ s.between.length + 1 ∧ (s.rxReady = true → os ≠ []))
      ∧ (s.rxReady = false → exec .rxProcess s = .next { s with result := some (.outcomes []) })
      ∧ ∀ g gs, s.between = g :: gs → s.rxReady = true →
          ∃ t o u os, exec .rxDecode s = .next t ∧ t.result = some (.decoded o)
            ∧ exec .rxProcess (rxEvents { t with between := gs } g) = .next u ∧ u.result = some (.outcomes os)
            ∧ exec .rxProcess s = .next { u with agenda := (checkBuffer s).handed.map Turn.request ++ u.agenda,
                                                 result := some (.outcomes (o :: os)) }

/-- R271: a byte that arrives between a frame's boundary and its decode loses the frame: LengthMismatch, everything
discarded. -/
def Obligations.LateByteLosesTheFrame : Prop :=
  ∀ (s : State) (addr cmd b : Byte) (payload : List Byte),
    s.rxBuf.wf = true → s.rxCount = 0 → frameLength payload.length ≤ s.cfg.rxBufSize.val →
      ∃ t, runAll (rxFeed (frameBytes s.cfg addr cmd payload) ++ [.rxByte b, .rxDecode]) s = .next t
        ∧ t.result = some (.decoded .lengthMismatch) ∧ t.rxCount = 0 ∧ t.rxReady = false ∧ t.rxOvf = false

/-! ### From the encoder to the decoder -/

/-- 43_receive_and_decode.md section 5, which the spec marks as derived: a frame the encoder built, fed into an empty channel
that holds it, with one boundary, is dispatched with the address, command and payload the encoder was given. -/
def Obligations.EncodedFrameIsDispatched : Prop :=
  ∀ (s : State) (addr cmd : Byte) (payload : List Byte),
    s.rxBuf.wf = true → s.rxCount = 0 → s.rxOvf = false → frameLength payload.length ≤ s.cfg.rxBufSize.val →
      ∃ t, runAll (rxFeed (frameBytes s.cfg addr cmd payload) ++ [.rxDecode]) s = .next t
        ∧ t.result = some (.decoded (.dispatched (dispatch s.cfg addr cmd payload)))
        ∧ t.rxCount = 0 ∧ t.rxReady = false ∧ t.rxOvf = false

/-- 41_frame_encoder.md section 4, which the spec marks as derived: one changed bit anywhere in such a frame is never
dispatched: in the magic BadMagic, in the length field LengthMismatch, anywhere else (address, command, payload, checksum)
ChecksumMismatch; and the channel is cleared. -/
def Obligations.OneBitErrorIsRejected : Prop :=
  ∀ (s : State) (addr cmd : Byte) (payload : List Byte) (k : Nat),
    s.rxBuf.wf = true → s.rxCount = 0 → s.rxOvf = false → frameLength payload.length ≤ s.cfg.rxBufSize.val →
    k < 8 * frameLength payload.length →
      ∃ t, runAll (rxFeed (flipBit (frameBytes s.cfg addr cmd payload) k) ++ [.rxDecode]) s = .next t
        ∧ t.result = some (.decoded
            (if k < 32 then .badMagic else if 40 ≤ k ∧ k < 72 then .lengthMismatch else .checksumMismatch))
        ∧ t.rxCount = 0 ∧ t.rxReady = false ∧ t.rxOvf = false

/-- 41_frame_encoder.md section 4, which the spec marks as derived: parsing gives back the fields each payload was built from,
under distinct codes. -/
def Obligations.PayloadFieldsRoundTrip : Prop :=
  ∀ (c : Configuration) (addr x y : Byte) (v w : Half) (qs : List Half), c.codes.distinct = true →
    dispatch c addr c.codes.formatSet (formatSetPayload c.endian x v w) = .formatSet addr x v w
      ∧ dispatch c addr c.codes.ack (ackPayload c.endian x v y) = .ack addr (ackPayload c.endian x v y) (some ⟨x, v, y⟩)
      ∧ dispatch c addr c.codes.imageData (samplesBytes c.endian qs) = .imageData addr (samplesBytes c.endian qs) qs
      ∧ dispatch c addr c.codes.writeReg [x, y] = .writeRegister addr x y
      ∧ dispatch c addr c.codes.readReg (enc16 c.endian v ++ [x]) = .readRegister addr v x

/-! ### Wire commands and the consumer -/

/-- The Ack command (43_receive_and_decode.md section 3, 44_environment_agents.md section 2). That a wire command is an
instruction the consumer runs, and the record of classes received, are the model's (log 3): an Ack is accepted with any payload, its three-field view only with four bytes; a handshake that waits takes
it, otherwise it is ignored. -/
def Obligations.AckCommand : Prop :=
  ∀ (s : State) (addr : Byte) (payload : List Byte), ∃ view,
    (∀ x s0 s1 y, payload = [x, s0, s1, y] → view = some ⟨x, dec16 s.cfg.endian s0 s1, y⟩)
      ∧ (payload.length ≠ 4 → view = none)
      ∧ exec (.ack addr payload) s
          = .next { s with consumed := s.consumed ++ [.ack addr payload view], waiting := false,
                           handshake := if s.waiting then .streaming else s.handshake }

/-- The FormatSet and ImageData commands (43_receive_and_decode.md section 3; as instructions, log 3): the parsed class reaches
the consumer, which has no action for it; a
payload of the wrong size is given the class Unknown. -/
def Obligations.FormatSetAndImageDataCommands : Prop :=
  ∀ (s : State) (addr : Byte) (payload : List Byte),
    (∀ fmt w0 w1 h0 h1, payload = [fmt, w0, w1, h0, h1] →
        exec (.formatSet addr payload) s
          = .next { s with consumed := s.consumed ++ [.formatSet addr fmt (dec16 s.cfg.endian w0 w1) (dec16 s.cfg.endian h0 h1)] })
      ∧ (payload.length ≠ 5 →
          exec (.formatSet addr payload) s
            = .next { s with consumed := s.consumed ++ [.unknown addr s.cfg.codes.formatSet] })
      ∧ (payload.length % 2 = 0 → ∃ samples : List Half,
          2 * samples.length = payload.length
            ∧ (∀ k, k < samples.length →
                samples[k]? = some (dec16 s.cfg.endian (byteAt payload (2 * k)) (byteAt payload (2 * k + 1))))
            ∧ exec (.imageData addr payload) s
                = .next { s with consumed := s.consumed ++ [.imageData addr payload samples] })
      ∧ (payload.length % 2 = 1 →
          exec (.imageData addr payload) s
            = .next { s with consumed := s.consumed ++ [.unknown addr s.cfg.codes.imageData] })

/-- The WriteRegister and Unknown commands (44_environment_agents.md section 2; as instructions, log 3): WriteRegister calls `write_register` once and transmits nothing; a payload of the wrong size, and
the Unknown command, do nothing. -/
def Obligations.WriteRegisterAndUnknownCommands : Prop :=
  ∀ (s : State) (addr cmd : Byte) (payload : List Byte),
    (∀ x y, payload = [x, y] →
        exec (.writeRegister addr payload) s
          = .next { s with consumed := s.consumed ++ [.writeRegister addr x y], regWrites := s.regWrites ++ [(x, y)] })
      ∧ (payload.length ≠ 2 →
          exec (.writeRegister addr payload) s
            = .next { s with consumed := s.consumed ++ [.unknown addr s.cfg.codes.writeReg] })
      ∧ exec (.unknown addr cmd payload) s = .next { s with consumed := s.consumed ++ [.unknown addr cmd] }

/-- The ReadRegister command (44_environment_agents.md section 2; as an instruction, log 3): it calls `read_register` once and replies with the ack: status 0 and the value read, or
the failure status and 0, the sequence number echoed, the reply's address that of the request. The answer is a free value
(log 10). With a frame open the reply is refused TxBusy; a hung sink does not take it (log 13). -/
def Obligations.ReadRegisterCommand : Prop :=
  ∀ (s : State) (addr : Byte) (payload : List Byte),
    (∀ s0 s1 x, payload = [s0, s1, x] →
        let seq := dec16 s.cfg.endian s0 s1
        let reply : List Byte :=
          match Config.readRegister s.regReads x with
          | some v => [0x00] ++ enc16 s.cfg.endian seq ++ [v]
          | none => [s.envCfg.readFailStatus] ++ enc16 s.cfg.endian seq ++ [0x00]
        let heard := s.consumed ++ [.readRegister addr seq x]
        exec (.readRegister addr payload) s
            = exec (.txFrame addr s.cfg.codes.ack reply) { s with consumed := heard, regReads := s.regReads + 1 }
          ∧ (CanSend s 4 →
            exec (.readRegister addr payload) s
              = .next { s with consumed := heard, regReads := s.regReads + 1,
                               txOut := s.txOut ++ frameBytes s.cfg addr s.cfg.codes.ack reply,
                               txCrc := crc16Update s.cfg.crcSeed (frameBody s.cfg addr s.cfg.codes.ack reply),
                               txRemain := 0, result := some .ok })
          ∧ (s.txState = .payload →
              exec (.readRegister addr payload) s
                = .next { s with consumed := heard, regReads := s.regReads + 1, result := some (.refused .txBusy) })
          ∧ (s.txState = .idle → s.sinkReturnsAt 0 = false →
              exec (.readRegister addr payload) s
                = .next { s with consumed := heard, regReads := s.regReads + 1, controller := .waitingForSink,
                                 result := none }))
      ∧ (payload.length ≠ 3 →
          exec (.readRegister addr payload) s
            = .next { s with consumed := s.consumed ++ [.unknown addr s.cfg.codes.readReg] })

/-! ### The Streaming Transmitter -/

/-- R208, R209: with no frame buffered and no producer event, `negotiate` sends FormatSet once, makes exactly RETRY_BUDGET
polls and reports HandshakeTimeout; the handshake state is as before. -/
def Obligations.NegotiateTimesOut : Prop :=
  ∀ (s : State) (addr fmt : Byte) (width height : Half),
    CanSend s 5 → s.controller = .ready → s.rxReady = false → s.between = [] →
      let payload := formatSetPayload s.cfg.endian fmt width height
      negotiate addr fmt width height s
        = { s with txOut := s.txOut ++ frameBytes s.cfg addr s.cfg.codes.formatSet payload,
                   txCrc := crc16Update s.cfg.crcSeed (frameBody s.cfg addr s.cfg.codes.formatSet payload), txRemain := 0,
                   polls := s.polls + s.envCfg.retryBudget, waiting := false, result := some .handshakeTimeout }

/-- R208: an Ack frame buffered and announced before the first poll ends the handshake in that poll: Ok, and the state is
Streaming. -/
def Obligations.NegotiateTakesTheAck : Prop :=
  ∀ (s : State) (addr fmt from_ : Byte) (width height : Half) (payload : List Byte),
    CanSend s 5 → s.controller = .ready → s.between = [] → 0 < s.envCfg.retryBudget →
    s.cfg.codes.distinct = true → s.rxBuf.wf = true → s.rxCount = 0 → s.rxOvf = false →
    frameLength payload.length ≤ s.cfg.rxBufSize.val →
      ∃ t, runAll (rxFeed (frameBytes s.cfg from_ s.cfg.codes.ack payload)) s = .next t
        ∧ (negotiate addr fmt width height t).result = some .ok
        ∧ (negotiate addr fmt width height t).handshake = .streaming
        ∧ (negotiate addr fmt width height t).polls = s.polls + 1

/-- R210 to R213: `write_image` starting in Streaming is a streaming cycle at once; starting in NeedsFormatAck it negotiates
first. A negotiation that returns either returned Ok, or HandshakeTimeout; after Ok, and after HandshakeTimeout under Proceed,
the streaming cycle follows with the state Streaming; under Halt `write_image` ends with the HandshakeTimeout and no image is
sent. The streaming cycle is TX_IMAGE, whatever it returns; under EveryFrame the state is then NeedsFormatAck, under Once it is
left. A procedure whose operation did not return goes no further (R247; logs 12, 13). -/
def Obligations.WriteImageAfterTimeout : Prop :=
  ∀ (s : State) (addr fmt : Byte) (width height : Half),
    let n := negotiate addr fmt width height s
    let image := fun u : State => txImage addr width height u
    let Cycle := fun u t : State =>
      ((image u).controller ≠ .ready → t = image u)
        ∧ ((image u).controller = .ready → s.envCfg.negotiatePolicy = .once → t = image u)
        ∧ ((image u).controller = .ready → s.envCfg.negotiatePolicy = .everyFrame →
            t = { image u with handshake := .needsFormatAck })
    (s.handshake = .streaming → Cycle s (writeImage addr fmt width height s))
      ∧ (s.handshake = .needsFormatAck →
          (n.controller ≠ .ready → writeImage addr fmt width height s = n)
            ∧ (n.controller = .ready → n.result = some .ok ∨ n.result = some .handshakeTimeout)
            ∧ (n.controller = .ready → n.result = some .ok →
                Cycle { n with handshake := .streaming } (writeImage addr fmt width height s))
            ∧ (n.controller = .ready → n.result = some .handshakeTimeout → s.envCfg.failPolicy = .halt →
                writeImage addr fmt width height s = n)
            ∧ (n.controller = .ready → n.result = some .handshakeTimeout → s.envCfg.failPolicy = .proceed →
                Cycle { n with handshake := .streaming } (writeImage addr fmt width height s)))

/-! ### Reset -/

/-- 70_reset_and_hazards.md section 1: RESET latches the configuration inputs and leaves every piece of state the spec gives a
reset value at that value; it emits nothing and calls no collaborator. That `TX_OUT` is not erased, where the table of reset
values has it empty, and that the environment's state stays, are the model's (log 15). What the spec leaves unspecified is not
mentioned. The configuration must be one R262 does not refuse. -/
def Obligations.ResetResult : Prop :=
  ∀ s : State, configValid s.cfgIn = true →
    ∃ t, exec .reset s = .next t
      ∧ t.cfg = s.cfgIn ∧ t.crcValid = false ∧ t.txState = .idle ∧ t.rxCount = 0 ∧ t.rxReady = false ∧ t.rxOvf = false
      ∧ t.txOut = s.txOut ∧ t.consumedSignals = s.consumedSignals ∧ t.regWrites = s.regWrites ∧ t.regReads = s.regReads
      ∧ t.pixels = s.pixels ∧ t.captureReady = s.captureReady ∧ t.cfgIn = s.cfgIn
      ∧ exec .crcRead t = .next { t with result := some (.refused .crcNotLoaded) }
      ∧ exec .rxDecode t = .next { t with result := some (.decoded .noFrame) }

/-- 70_reset_and_hazards.md section 1: a configuration in which two commands have one code, RX_BUF_SIZE is below 12 or
CHUNK_MAX below 1 is refused. That the refusal is the machine's, not a returned outcome, is the model's (log 14). -/
def Obligations.InvalidConfigurationIsRefused : Prop :=
  ∀ s : State,
    let k := s.cfgIn.codes
    (¬ [k.ack, k.formatSet, k.imageData, k.writeReg, k.readReg].Nodup ∨ s.cfgIn.rxBufSize.val < 12 ∨ s.cfgIn.chunkMax < 1) →
      exec .reset s = .refused .invalidConfiguration

/-! ### Frames: what an operation leaves unchanged -/

/-- R94 to R97, R113 to R121: the CRC port's operations change the port and the outcome only; the encoder's operations change
the encoder's registers, `TX_OUT`, the outcome and whether the operation returned only. Every byte of both buffers, every
input, the configuration and the environment's state are among what is unchanged. -/
def Obligations.CrcAndEncoderFrame : Prop :=
  (∀ (i : Instr) (s t : State), isCrcPort i = true → exec i s = .next t → OnlyCrcPort s t)
    ∧ ∀ (s t : State) (a b c : Byte) (v w : Half) (n : Nat) (bs : List Byte),
        exec (.txBegin a b n) s = .next t ∨ exec (.txChunk bs) s = .next t ∨ exec .txEnd s = .next t
          ∨ exec (.txFrame a b bs) s = .next t ∨ exec (.txAck a b v c) s = .next t ∨ exec (.txFormatSet a b v w) s = .next t →
        OnlyEncoder s t

/-- R141, R143: TX_IMAGE changes the encoder's part, the frame source's and `CHUNK_BUF` only, and of `CHUNK_BUF` only the
bytes it stores the chunk to, from index 0 up to `2 * height`. -/
def Obligations.ChunkerFrame : Prop :=
  ∀ (s t : State) (addr : Byte) (width height : Half), exec (.txImage addr width height) s = .next t →
    OnlyChunker s t ∧ ∀ a, 2 * height.toNat ≤ a → readByte t.chunkBuf a = readByte s.chunkBuf a

/-- R160, R161, R170, R180: the producer's events change the receive channel only, and of `RX_BUF` only the byte at
`RX_COUNT`; RX_DECODE changes the flags, the count and the outcome only, no byte of `RX_BUF`; RX_PROCESS changes the receive
channel, the outcome, and the turns it hands over. -/
def Obligations.ReceiveFrame : Prop :=
  ∀ s t : State,
    (∀ b, exec (.rxByte b) s = .next t → OnlyChannel s t ∧ ∀ a, a ≠ s.rxCount → readByte t.rxBuf a = readByte s.rxBuf a)
      ∧ (exec .rxBoundary s = .next t → OnlyChannel s t ∧ t.rxBuf = s.rxBuf)
      ∧ (exec .rxDecode s = .next t → OnlyDecoder s t)
      ∧ (exec .rxProcess s = .next t →
          t = { s with rxBuf := t.rxBuf, rxCount := t.rxCount, rxReady := t.rxReady, rxOvf := t.rxOvf, result := t.result,
                       between := t.between, agenda := t.agenda }
            ∧ (s.between = [] → t.rxBuf = s.rxBuf))

/-- R204 to R208: a wire command changes the consumer's records, the handshake and, through TX_ACK, the encoder's part only:
the receive channel, both buffers, the CRC port and the configuration are unchanged; only ReadRegister transmits, only
WriteRegister writes a register, only Ack moves the handshake. -/
def Obligations.ConsumerFrame : Prop :=
  ∀ (i : Instr) (s t : State), i.isOperation = false → exec i s = .next t →
    OnlyConsumer s t
      ∧ ((∀ a p, i ≠ .readRegister a p) →
          t.txOut = s.txOut ∧ t.txState = s.txState ∧ t.txCrc = s.txCrc ∧ t.txRemain = s.txRemain ∧ t.regReads = s.regReads
            ∧ t.result = s.result ∧ t.controller = s.controller)
      ∧ ((∀ a p, i ≠ .writeRegister a p) → t.regWrites = s.regWrites)
      ∧ ((∀ a p, i ≠ .ack a p) → t.handshake = s.handshake ∧ t.waiting = s.waiting)

/-! ### Whole-machine rules -/

/-- 10_state.md section 9, which the spec marks as derived: every step, of every agent, keeps the invariant: `RX_COUNT` within
the buffer, `RX_OVF` only with a full one, both buffers in canonical form and inside their sizes, a legal configuration. -/
def Obligations.EveryStepKeepsInv : Prop :=
  ∀ s t : State, MachineInv s → step s = .next t → MachineInv t

/-- R28: the reset state meets the invariants. Its unspecified registers and its configuration are logs 5 to 7. -/
def Obligations.ResetMeetsTheInvariants : Prop :=
  MachineInv State.reset ∧ TxInv State.reset ∧ State.reset.crcValid = false ∧ State.reset.txState = .idle
    ∧ State.reset.rxCount = 0 ∧ State.reset.rxReady = false ∧ State.reset.rxOvf = false ∧ State.reset.txOut = []
    ∧ State.reset.cfg = State.reset.cfgIn

/-- 10_state.md section 9, which the spec marks as derived: so long as no RESET falls inside a frame or changes the
configuration, every step keeps: while idle `TX_OUT` is a concatenation of whole frames; while a frame is open `TX_CRC` is the
CRC of its header and payload so far and `TX_REMAIN` what is still to come. -/
def Obligations.EveryStepKeepsTxInv : Prop :=
  ∀ s t : State, TxInv s → NoResetInFrame s → step s = .next t → TxInv t

/-- R24, R49: `TX_OUT` only grows, in every step of every agent. -/
def Obligations.TxOutOnlyGrows : Prop :=
  ∀ s t : State, step s = .next t → ∃ bs, t.txOut = s.txOut ++ bs

/-- 10_state.md section 5, 70_reset_and_hazards.md section 1: no operation but RESET writes the configuration registers; RESET
takes them from the inputs and changes the engine's own state only. That the environment's state stays, and that a controller
that could not step is released, are the model's (log 15). -/
def Obligations.OnlyResetWritesConfiguration : Prop :=
  (∀ (i : Instr) (s t : State), i ≠ .reset → exec i s = .next t → t.cfg = s.cfg)
    ∧ ∀ (s t : State), exec .reset s = .next t →
        t = { s with cfg := s.cfgIn, crcAcc := t.crcAcc, crcValid := t.crcValid, txState := t.txState, txCrc := t.txCrc,
                     txRemain := t.txRemain, chunkBuf := t.chunkBuf, rxBuf := t.rxBuf, rxCount := t.rxCount,
                     rxReady := t.rxReady, rxOvf := t.rxOvf, result := t.result, controller := .ready }

/-- R11, R100: no operation but the CRC port's and RESET reads or writes `CRC_ACC` or `CRC_VALID`: put other values in them,
and every such operation does the same and leaves them there. -/
def Obligations.CrcPortIsIsolated : Prop :=
  ∀ (i : Instr) (s : State) (a : Half) (v : Bool), isCrcPort i = false → i ≠ .reset →
    exec i { s with crcAcc := a, crcValid := v } = mapNext (fun t => { t with crcAcc := a, crcValid := v }) (exec i s)

/-- R48: a producer event commutes with every transmit and CRC operation, composites included. -/
def Obligations.ProducerCommutesWithTransmit : Prop :=
  ∀ (i : Instr) (s : State) (e : RxEvent), isCrcPort i = true ∨ isTransmit i = true →
    exec i (rxEvent s e) = mapNext (fun t => rxEvent t e) (exec i s)

/-- R28, R11, R14 to R17: what the spec leaves unspecified is never observable: two states that agree in everything else step
alike, to states that again agree in everything else, and stop alike. -/
def Obligations.UnspecifiedStateIsUnobservable : Prop :=
  ∀ s t : State, Alike s t →
    (∀ s', step s = .next s' → ∃ t', step t = .next t' ∧ Alike s' t')
      ∧ (∀ f, step s = .fault f → step t = .fault f)
      ∧ (∀ r, step s = .refused r → step t = .refused r)

/-- R233, R237: a refused operation of the controller changes nothing but the returned outcome. -/
def Obligations.RefusedOperationChangesNothing : Prop :=
  ∀ (i : Instr) (s t : State) (r : OpRefusal), i.isOperation = true → i.issuer = .controller → exec i s = .next t →
    t.result = some (.refused r) → t = { s with result := some (.refused r) }
end

