-- ==== Sys2Proof/Laws/State.lean ====
section
/-! SUPPORT. One lemma per field per named update of the state, each true by `rfl`. -/

namespace Sys2Proof.Machine

variable (s : State)

/-! ### returning -/

@[simp] theorem returning_cfg (o : Returned) : (s.returning o).cfg = s.cfg := rfl
@[simp] theorem returning_crcAcc (o : Returned) : (s.returning o).crcAcc = s.crcAcc := rfl
@[simp] theorem returning_crcValid (o : Returned) : (s.returning o).crcValid = s.crcValid := rfl
@[simp] theorem returning_txState (o : Returned) : (s.returning o).txState = s.txState := rfl
@[simp] theorem returning_txCrc (o : Returned) : (s.returning o).txCrc = s.txCrc := rfl
@[simp] theorem returning_txRemain (o : Returned) : (s.returning o).txRemain = s.txRemain := rfl
@[simp] theorem returning_chunkBuf (o : Returned) : (s.returning o).chunkBuf = s.chunkBuf := rfl
@[simp] theorem returning_rxBuf (o : Returned) : (s.returning o).rxBuf = s.rxBuf := rfl
@[simp] theorem returning_rxCount (o : Returned) : (s.returning o).rxCount = s.rxCount := rfl
@[simp] theorem returning_rxReady (o : Returned) : (s.returning o).rxReady = s.rxReady := rfl
@[simp] theorem returning_rxOvf (o : Returned) : (s.returning o).rxOvf = s.rxOvf := rfl
@[simp] theorem returning_txOut (o : Returned) : (s.returning o).txOut = s.txOut := rfl
@[simp] theorem returning_result (o : Returned) : (s.returning o).result = some o := rfl
@[simp] theorem returning_cfgIn (o : Returned) : (s.returning o).cfgIn = s.cfgIn := rfl
@[simp] theorem returning_captureReady (o : Returned) : (s.returning o).captureReady = s.captureReady := rfl
@[simp] theorem returning_pixels (o : Returned) : (s.returning o).pixels = s.pixels := rfl
@[simp] theorem returning_sinkHangsAt (o : Returned) : (s.returning o).sinkHangsAt = s.sinkHangsAt := rfl
@[simp] theorem returning_between (o : Returned) : (s.returning o).between = s.between := rfl
@[simp] theorem returning_consumedSignals (o : Returned) : (s.returning o).consumedSignals = s.consumedSignals := rfl
@[simp] theorem returning_regWrites (o : Returned) : (s.returning o).regWrites = s.regWrites := rfl
@[simp] theorem returning_regReads (o : Returned) : (s.returning o).regReads = s.regReads := rfl
@[simp] theorem returning_consumed (o : Returned) : (s.returning o).consumed = s.consumed := rfl
@[simp] theorem returning_handshake (o : Returned) : (s.returning o).handshake = s.handshake := rfl
@[simp] theorem returning_waiting (o : Returned) : (s.returning o).waiting = s.waiting := rfl
@[simp] theorem returning_polls (o : Returned) : (s.returning o).polls = s.polls := rfl
@[simp] theorem returning_envCfg (o : Returned) : (s.returning o).envCfg = s.envCfg := rfl
@[simp] theorem returning_controller (o : Returned) : (s.returning o).controller = s.controller := rfl
@[simp] theorem returning_agenda (o : Returned) : (s.returning o).agenda = s.agenda := rfl

/-! ### refusing -/

@[simp] theorem refusing_cfg (r : OpRefusal) : (s.refusing r).cfg = s.cfg := rfl
@[simp] theorem refusing_crcAcc (r : OpRefusal) : (s.refusing r).crcAcc = s.crcAcc := rfl
@[simp] theorem refusing_crcValid (r : OpRefusal) : (s.refusing r).crcValid = s.crcValid := rfl
@[simp] theorem refusing_txState (r : OpRefusal) : (s.refusing r).txState = s.txState := rfl
@[simp] theorem refusing_txCrc (r : OpRefusal) : (s.refusing r).txCrc = s.txCrc := rfl
@[simp] theorem refusing_txRemain (r : OpRefusal) : (s.refusing r).txRemain = s.txRemain := rfl
@[simp] theorem refusing_chunkBuf (r : OpRefusal) : (s.refusing r).chunkBuf = s.chunkBuf := rfl
@[simp] theorem refusing_rxBuf (r : OpRefusal) : (s.refusing r).rxBuf = s.rxBuf := rfl
@[simp] theorem refusing_rxCount (r : OpRefusal) : (s.refusing r).rxCount = s.rxCount := rfl
@[simp] theorem refusing_rxReady (r : OpRefusal) : (s.refusing r).rxReady = s.rxReady := rfl
@[simp] theorem refusing_rxOvf (r : OpRefusal) : (s.refusing r).rxOvf = s.rxOvf := rfl
@[simp] theorem refusing_txOut (r : OpRefusal) : (s.refusing r).txOut = s.txOut := rfl
@[simp] theorem refusing_result (r : OpRefusal) : (s.refusing r).result = some (.refused r) := rfl
@[simp] theorem refusing_cfgIn (r : OpRefusal) : (s.refusing r).cfgIn = s.cfgIn := rfl
@[simp] theorem refusing_captureReady (r : OpRefusal) : (s.refusing r).captureReady = s.captureReady := rfl
@[simp] theorem refusing_pixels (r : OpRefusal) : (s.refusing r).pixels = s.pixels := rfl
@[simp] theorem refusing_sinkHangsAt (r : OpRefusal) : (s.refusing r).sinkHangsAt = s.sinkHangsAt := rfl
@[simp] theorem refusing_between (r : OpRefusal) : (s.refusing r).between = s.between := rfl
@[simp] theorem refusing_consumedSignals (r : OpRefusal) : (s.refusing r).consumedSignals = s.consumedSignals := rfl
@[simp] theorem refusing_regWrites (r : OpRefusal) : (s.refusing r).regWrites = s.regWrites := rfl
@[simp] theorem refusing_regReads (r : OpRefusal) : (s.refusing r).regReads = s.regReads := rfl
@[simp] theorem refusing_consumed (r : OpRefusal) : (s.refusing r).consumed = s.consumed := rfl
@[simp] theorem refusing_handshake (r : OpRefusal) : (s.refusing r).handshake = s.handshake := rfl
@[simp] theorem refusing_waiting (r : OpRefusal) : (s.refusing r).waiting = s.waiting := rfl
@[simp] theorem refusing_polls (r : OpRefusal) : (s.refusing r).polls = s.polls := rfl
@[simp] theorem refusing_envCfg (r : OpRefusal) : (s.refusing r).envCfg = s.envCfg := rfl
@[simp] theorem refusing_controller (r : OpRefusal) : (s.refusing r).controller = s.controller := rfl
@[simp] theorem refusing_agenda (r : OpRefusal) : (s.refusing r).agenda = s.agenda := rfl

/-! ### hanging -/

@[simp] theorem hanging_cfg (c : Controller) : (s.hanging c).cfg = s.cfg := rfl
@[simp] theorem hanging_crcAcc (c : Controller) : (s.hanging c).crcAcc = s.crcAcc := rfl
@[simp] theorem hanging_crcValid (c : Controller) : (s.hanging c).crcValid = s.crcValid := rfl
@[simp] theorem hanging_txState (c : Controller) : (s.hanging c).txState = s.txState := rfl
@[simp] theorem hanging_txCrc (c : Controller) : (s.hanging c).txCrc = s.txCrc := rfl
@[simp] theorem hanging_txRemain (c : Controller) : (s.hanging c).txRemain = s.txRemain := rfl
@[simp] theorem hanging_chunkBuf (c : Controller) : (s.hanging c).chunkBuf = s.chunkBuf := rfl
@[simp] theorem hanging_rxBuf (c : Controller) : (s.hanging c).rxBuf = s.rxBuf := rfl
@[simp] theorem hanging_rxCount (c : Controller) : (s.hanging c).rxCount = s.rxCount := rfl
@[simp] theorem hanging_rxReady (c : Controller) : (s.hanging c).rxReady = s.rxReady := rfl
@[simp] theorem hanging_rxOvf (c : Controller) : (s.hanging c).rxOvf = s.rxOvf := rfl
@[simp] theorem hanging_txOut (c : Controller) : (s.hanging c).txOut = s.txOut := rfl
@[simp] theorem hanging_result (c : Controller) : (s.hanging c).result = none := rfl
@[simp] theorem hanging_cfgIn (c : Controller) : (s.hanging c).cfgIn = s.cfgIn := rfl
@[simp] theorem hanging_captureReady (c : Controller) : (s.hanging c).captureReady = s.captureReady := rfl
@[simp] theorem hanging_pixels (c : Controller) : (s.hanging c).pixels = s.pixels := rfl
@[simp] theorem hanging_sinkHangsAt (c : Controller) : (s.hanging c).sinkHangsAt = s.sinkHangsAt := rfl
@[simp] theorem hanging_between (c : Controller) : (s.hanging c).between = s.between := rfl
@[simp] theorem hanging_consumedSignals (c : Controller) : (s.hanging c).consumedSignals = s.consumedSignals := rfl
@[simp] theorem hanging_regWrites (c : Controller) : (s.hanging c).regWrites = s.regWrites := rfl
@[simp] theorem hanging_regReads (c : Controller) : (s.hanging c).regReads = s.regReads := rfl
@[simp] theorem hanging_consumed (c : Controller) : (s.hanging c).consumed = s.consumed := rfl
@[simp] theorem hanging_handshake (c : Controller) : (s.hanging c).handshake = s.handshake := rfl
@[simp] theorem hanging_waiting (c : Controller) : (s.hanging c).waiting = s.waiting := rfl
@[simp] theorem hanging_polls (c : Controller) : (s.hanging c).polls = s.polls := rfl
@[simp] theorem hanging_envCfg (c : Controller) : (s.hanging c).envCfg = s.envCfg := rfl
@[simp] theorem hanging_controller (c : Controller) : (s.hanging c).controller = c := rfl
@[simp] theorem hanging_agenda (c : Controller) : (s.hanging c).agenda = s.agenda := rfl

/-! ### emit -/

@[simp] theorem emit_cfg (bs : List Byte) : (s.emit bs).cfg = s.cfg := rfl
@[simp] theorem emit_crcAcc (bs : List Byte) : (s.emit bs).crcAcc = s.crcAcc := rfl
@[simp] theorem emit_crcValid (bs : List Byte) : (s.emit bs).crcValid = s.crcValid := rfl
@[simp] theorem emit_txState (bs : List Byte) : (s.emit bs).txState = s.txState := rfl
@[simp] theorem emit_txCrc (bs : List Byte) : (s.emit bs).txCrc = s.txCrc := rfl
@[simp] theorem emit_txRemain (bs : List Byte) : (s.emit bs).txRemain = s.txRemain := rfl
@[simp] theorem emit_chunkBuf (bs : List Byte) : (s.emit bs).chunkBuf = s.chunkBuf := rfl
@[simp] theorem emit_rxBuf (bs : List Byte) : (s.emit bs).rxBuf = s.rxBuf := rfl
@[simp] theorem emit_rxCount (bs : List Byte) : (s.emit bs).rxCount = s.rxCount := rfl
@[simp] theorem emit_rxReady (bs : List Byte) : (s.emit bs).rxReady = s.rxReady := rfl
@[simp] theorem emit_rxOvf (bs : List Byte) : (s.emit bs).rxOvf = s.rxOvf := rfl
@[simp] theorem emit_txOut (bs : List Byte) : (s.emit bs).txOut = s.txOut ++ bs := rfl
@[simp] theorem emit_result (bs : List Byte) : (s.emit bs).result = s.result := rfl
@[simp] theorem emit_cfgIn (bs : List Byte) : (s.emit bs).cfgIn = s.cfgIn := rfl
@[simp] theorem emit_captureReady (bs : List Byte) : (s.emit bs).captureReady = s.captureReady := rfl
@[simp] theorem emit_pixels (bs : List Byte) : (s.emit bs).pixels = s.pixels := rfl
@[simp] theorem emit_sinkHangsAt (bs : List Byte) : (s.emit bs).sinkHangsAt = s.sinkHangsAt := rfl
@[simp] theorem emit_between (bs : List Byte) : (s.emit bs).between = s.between := rfl
@[simp] theorem emit_consumedSignals (bs : List Byte) : (s.emit bs).consumedSignals = s.consumedSignals := rfl
@[simp] theorem emit_regWrites (bs : List Byte) : (s.emit bs).regWrites = s.regWrites := rfl
@[simp] theorem emit_regReads (bs : List Byte) : (s.emit bs).regReads = s.regReads := rfl
@[simp] theorem emit_consumed (bs : List Byte) : (s.emit bs).consumed = s.consumed := rfl
@[simp] theorem emit_handshake (bs : List Byte) : (s.emit bs).handshake = s.handshake := rfl
@[simp] theorem emit_waiting (bs : List Byte) : (s.emit bs).waiting = s.waiting := rfl
@[simp] theorem emit_polls (bs : List Byte) : (s.emit bs).polls = s.polls := rfl
@[simp] theorem emit_envCfg (bs : List Byte) : (s.emit bs).envCfg = s.envCfg := rfl
@[simp] theorem emit_controller (bs : List Byte) : (s.emit bs).controller = s.controller := rfl
@[simp] theorem emit_agenda (bs : List Byte) : (s.emit bs).agenda = s.agenda := rfl

/-! ### openFrame -/

@[simp] theorem openFrame_cfg (addr cmd : Byte) (n : Nat) : (s.openFrame addr cmd n).cfg = s.cfg := rfl
@[simp] theorem openFrame_crcAcc (addr cmd : Byte) (n : Nat) : (s.openFrame addr cmd n).crcAcc = s.crcAcc := rfl
@[simp] theorem openFrame_crcValid (addr cmd : Byte) (n : Nat) : (s.openFrame addr cmd n).crcValid = s.crcValid := rfl
@[simp] theorem openFrame_txState (addr cmd : Byte) (n : Nat) : (s.openFrame addr cmd n).txState = .payload := rfl
@[simp] theorem openFrame_txCrc (addr cmd : Byte) (n : Nat) : (s.openFrame addr cmd n).txCrc = crc16Update s.cfg.crcSeed (header s.cfg addr cmd n) := rfl
@[simp] theorem openFrame_txRemain (addr cmd : Byte) (n : Nat) : (s.openFrame addr cmd n).txRemain = BitVec.ofNat 32 n := rfl
@[simp] theorem openFrame_chunkBuf (addr cmd : Byte) (n : Nat) : (s.openFrame addr cmd n).chunkBuf = s.chunkBuf := rfl
@[simp] theorem openFrame_rxBuf (addr cmd : Byte) (n : Nat) : (s.openFrame addr cmd n).rxBuf = s.rxBuf := rfl
@[simp] theorem openFrame_rxCount (addr cmd : Byte) (n : Nat) : (s.openFrame addr cmd n).rxCount = s.rxCount := rfl
@[simp] theorem openFrame_rxReady (addr cmd : Byte) (n : Nat) : (s.openFrame addr cmd n).rxReady = s.rxReady := rfl
@[simp] theorem openFrame_rxOvf (addr cmd : Byte) (n : Nat) : (s.openFrame addr cmd n).rxOvf = s.rxOvf := rfl
@[simp] theorem openFrame_txOut (addr cmd : Byte) (n : Nat) : (s.openFrame addr cmd n).txOut = s.txOut ++ header s.cfg addr cmd n := rfl
@[simp] theorem openFrame_result (addr cmd : Byte) (n : Nat) : (s.openFrame addr cmd n).result = s.result := rfl
@[simp] theorem openFrame_cfgIn (addr cmd : Byte) (n : Nat) : (s.openFrame addr cmd n).cfgIn = s.cfgIn := rfl
@[simp] theorem openFrame_captureReady (addr cmd : Byte) (n : Nat) : (s.openFrame addr cmd n).captureReady = s.captureReady := rfl
@[simp] theorem openFrame_pixels (addr cmd : Byte) (n : Nat) : (s.openFrame addr cmd n).pixels = s.pixels := rfl
@[simp] theorem openFrame_sinkHangsAt (addr cmd : Byte) (n : Nat) : (s.openFrame addr cmd n).sinkHangsAt = s.sinkHangsAt := rfl
@[simp] theorem openFrame_between (addr cmd : Byte) (n : Nat) : (s.openFrame addr cmd n).between = s.between := rfl
@[simp] theorem openFrame_consumedSignals (addr cmd : Byte) (n : Nat) : (s.openFrame addr cmd n).consumedSignals = s.consumedSignals := rfl
@[simp] theorem openFrame_regWrites (addr cmd : Byte) (n : Nat) : (s.openFrame addr cmd n).regWrites = s.regWrites := rfl
@[simp] theorem openFrame_regReads (addr cmd : Byte) (n : Nat) : (s.openFrame addr cmd n).regReads = s.regReads := rfl
@[simp] theorem openFrame_consumed (addr cmd : Byte) (n : Nat) : (s.openFrame addr cmd n).consumed = s.consumed := rfl
@[simp] theorem openFrame_handshake (addr cmd : Byte) (n : Nat) : (s.openFrame addr cmd n).handshake = s.handshake := rfl
@[simp] theorem openFrame_waiting (addr cmd : Byte) (n : Nat) : (s.openFrame addr cmd n).waiting = s.waiting := rfl
@[simp] theorem openFrame_polls (addr cmd : Byte) (n : Nat) : (s.openFrame addr cmd n).polls = s.polls := rfl
@[simp] theorem openFrame_envCfg (addr cmd : Byte) (n : Nat) : (s.openFrame addr cmd n).envCfg = s.envCfg := rfl
@[simp] theorem openFrame_controller (addr cmd : Byte) (n : Nat) : (s.openFrame addr cmd n).controller = s.controller := rfl
@[simp] theorem openFrame_agenda (addr cmd : Byte) (n : Nat) : (s.openFrame addr cmd n).agenda = s.agenda := rfl

/-! ### sendPayload -/

@[simp] theorem sendPayload_cfg (bs : List Byte) : (s.sendPayload bs).cfg = s.cfg := rfl
@[simp] theorem sendPayload_crcAcc (bs : List Byte) : (s.sendPayload bs).crcAcc = s.crcAcc := rfl
@[simp] theorem sendPayload_crcValid (bs : List Byte) : (s.sendPayload bs).crcValid = s.crcValid := rfl
@[simp] theorem sendPayload_txState (bs : List Byte) : (s.sendPayload bs).txState = s.txState := rfl
@[simp] theorem sendPayload_txCrc (bs : List Byte) : (s.sendPayload bs).txCrc = crc16Update s.txCrc bs := rfl
@[simp] theorem sendPayload_txRemain (bs : List Byte) : (s.sendPayload bs).txRemain = s.txRemain - BitVec.ofNat 32 bs.length := rfl
@[simp] theorem sendPayload_chunkBuf (bs : List Byte) : (s.sendPayload bs).chunkBuf = s.chunkBuf := rfl
@[simp] theorem sendPayload_rxBuf (bs : List Byte) : (s.sendPayload bs).rxBuf = s.rxBuf := rfl
@[simp] theorem sendPayload_rxCount (bs : List Byte) : (s.sendPayload bs).rxCount = s.rxCount := rfl
@[simp] theorem sendPayload_rxReady (bs : List Byte) : (s.sendPayload bs).rxReady = s.rxReady := rfl
@[simp] theorem sendPayload_rxOvf (bs : List Byte) : (s.sendPayload bs).rxOvf = s.rxOvf := rfl
@[simp] theorem sendPayload_txOut (bs : List Byte) : (s.sendPayload bs).txOut = s.txOut ++ bs := rfl
@[simp] theorem sendPayload_result (bs : List Byte) : (s.sendPayload bs).result = s.result := rfl
@[simp] theorem sendPayload_cfgIn (bs : List Byte) : (s.sendPayload bs).cfgIn = s.cfgIn := rfl
@[simp] theorem sendPayload_captureReady (bs : List Byte) : (s.sendPayload bs).captureReady = s.captureReady := rfl
@[simp] theorem sendPayload_pixels (bs : List Byte) : (s.sendPayload bs).pixels = s.pixels := rfl
@[simp] theorem sendPayload_sinkHangsAt (bs : List Byte) : (s.sendPayload bs).sinkHangsAt = s.sinkHangsAt := rfl
@[simp] theorem sendPayload_between (bs : List Byte) : (s.sendPayload bs).between = s.between := rfl
@[simp] theorem sendPayload_consumedSignals (bs : List Byte) : (s.sendPayload bs).consumedSignals = s.consumedSignals := rfl
@[simp] theorem sendPayload_regWrites (bs : List Byte) : (s.sendPayload bs).regWrites = s.regWrites := rfl
@[simp] theorem sendPayload_regReads (bs : List Byte) : (s.sendPayload bs).regReads = s.regReads := rfl
@[simp] theorem sendPayload_consumed (bs : List Byte) : (s.sendPayload bs).consumed = s.consumed := rfl
@[simp] theorem sendPayload_handshake (bs : List Byte) : (s.sendPayload bs).handshake = s.handshake := rfl
@[simp] theorem sendPayload_waiting (bs : List Byte) : (s.sendPayload bs).waiting = s.waiting := rfl
@[simp] theorem sendPayload_polls (bs : List Byte) : (s.sendPayload bs).polls = s.polls := rfl
@[simp] theorem sendPayload_envCfg (bs : List Byte) : (s.sendPayload bs).envCfg = s.envCfg := rfl
@[simp] theorem sendPayload_controller (bs : List Byte) : (s.sendPayload bs).controller = s.controller := rfl
@[simp] theorem sendPayload_agenda (bs : List Byte) : (s.sendPayload bs).agenda = s.agenda := rfl

/-! ### closeFrame -/

@[simp] theorem closeFrame_cfg : (s.closeFrame).cfg = s.cfg := rfl
@[simp] theorem closeFrame_crcAcc : (s.closeFrame).crcAcc = s.crcAcc := rfl
@[simp] theorem closeFrame_crcValid : (s.closeFrame).crcValid = s.crcValid := rfl
@[simp] theorem closeFrame_txState : (s.closeFrame).txState = .idle := rfl
@[simp] theorem closeFrame_txCrc : (s.closeFrame).txCrc = s.txCrc := rfl
@[simp] theorem closeFrame_txRemain : (s.closeFrame).txRemain = s.txRemain := rfl
@[simp] theorem closeFrame_chunkBuf : (s.closeFrame).chunkBuf = s.chunkBuf := rfl
@[simp] theorem closeFrame_rxBuf : (s.closeFrame).rxBuf = s.rxBuf := rfl
@[simp] theorem closeFrame_rxCount : (s.closeFrame).rxCount = s.rxCount := rfl
@[simp] theorem closeFrame_rxReady : (s.closeFrame).rxReady = s.rxReady := rfl
@[simp] theorem closeFrame_rxOvf : (s.closeFrame).rxOvf = s.rxOvf := rfl
@[simp] theorem closeFrame_txOut : (s.closeFrame).txOut = s.txOut ++ enc16 s.cfg.endian s.txCrc := rfl
@[simp] theorem closeFrame_result : (s.closeFrame).result = s.result := rfl
@[simp] theorem closeFrame_cfgIn : (s.closeFrame).cfgIn = s.cfgIn := rfl
@[simp] theorem closeFrame_captureReady : (s.closeFrame).captureReady = s.captureReady := rfl
@[simp] theorem closeFrame_pixels : (s.closeFrame).pixels = s.pixels := rfl
@[simp] theorem closeFrame_sinkHangsAt : (s.closeFrame).sinkHangsAt = s.sinkHangsAt := rfl
@[simp] theorem closeFrame_between : (s.closeFrame).between = s.between := rfl
@[simp] theorem closeFrame_consumedSignals : (s.closeFrame).consumedSignals = s.consumedSignals := rfl
@[simp] theorem closeFrame_regWrites : (s.closeFrame).regWrites = s.regWrites := rfl
@[simp] theorem closeFrame_regReads : (s.closeFrame).regReads = s.regReads := rfl
@[simp] theorem closeFrame_consumed : (s.closeFrame).consumed = s.consumed := rfl
@[simp] theorem closeFrame_handshake : (s.closeFrame).handshake = s.handshake := rfl
@[simp] theorem closeFrame_waiting : (s.closeFrame).waiting = s.waiting := rfl
@[simp] theorem closeFrame_polls : (s.closeFrame).polls = s.polls := rfl
@[simp] theorem closeFrame_envCfg : (s.closeFrame).envCfg = s.envCfg := rfl
@[simp] theorem closeFrame_controller : (s.closeFrame).controller = s.controller := rfl
@[simp] theorem closeFrame_agenda : (s.closeFrame).agenda = s.agenda := rfl

/-! ### dropPixels -/

@[simp] theorem dropPixels_cfg (n : Nat) : (s.dropPixels n).cfg = s.cfg := rfl
@[simp] theorem dropPixels_crcAcc (n : Nat) : (s.dropPixels n).crcAcc = s.crcAcc := rfl
@[simp] theorem dropPixels_crcValid (n : Nat) : (s.dropPixels n).crcValid = s.crcValid := rfl
@[simp] theorem dropPixels_txState (n : Nat) : (s.dropPixels n).txState = s.txState := rfl
@[simp] theorem dropPixels_txCrc (n : Nat) : (s.dropPixels n).txCrc = s.txCrc := rfl
@[simp] theorem dropPixels_txRemain (n : Nat) : (s.dropPixels n).txRemain = s.txRemain := rfl
@[simp] theorem dropPixels_chunkBuf (n : Nat) : (s.dropPixels n).chunkBuf = s.chunkBuf := rfl
@[simp] theorem dropPixels_rxBuf (n : Nat) : (s.dropPixels n).rxBuf = s.rxBuf := rfl
@[simp] theorem dropPixels_rxCount (n : Nat) : (s.dropPixels n).rxCount = s.rxCount := rfl
@[simp] theorem dropPixels_rxReady (n : Nat) : (s.dropPixels n).rxReady = s.rxReady := rfl
@[simp] theorem dropPixels_rxOvf (n : Nat) : (s.dropPixels n).rxOvf = s.rxOvf := rfl
@[simp] theorem dropPixels_txOut (n : Nat) : (s.dropPixels n).txOut = s.txOut := rfl
@[simp] theorem dropPixels_result (n : Nat) : (s.dropPixels n).result = s.result := rfl
@[simp] theorem dropPixels_cfgIn (n : Nat) : (s.dropPixels n).cfgIn = s.cfgIn := rfl
@[simp] theorem dropPixels_captureReady (n : Nat) : (s.dropPixels n).captureReady = s.captureReady := rfl
@[simp] theorem dropPixels_pixels (n : Nat) : (s.dropPixels n).pixels = s.pixels.drop n := rfl
@[simp] theorem dropPixels_sinkHangsAt (n : Nat) : (s.dropPixels n).sinkHangsAt = s.sinkHangsAt := rfl
@[simp] theorem dropPixels_between (n : Nat) : (s.dropPixels n).between = s.between := rfl
@[simp] theorem dropPixels_consumedSignals (n : Nat) : (s.dropPixels n).consumedSignals = s.consumedSignals := rfl
@[simp] theorem dropPixels_regWrites (n : Nat) : (s.dropPixels n).regWrites = s.regWrites := rfl
@[simp] theorem dropPixels_regReads (n : Nat) : (s.dropPixels n).regReads = s.regReads := rfl
@[simp] theorem dropPixels_consumed (n : Nat) : (s.dropPixels n).consumed = s.consumed := rfl
@[simp] theorem dropPixels_handshake (n : Nat) : (s.dropPixels n).handshake = s.handshake := rfl
@[simp] theorem dropPixels_waiting (n : Nat) : (s.dropPixels n).waiting = s.waiting := rfl
@[simp] theorem dropPixels_polls (n : Nat) : (s.dropPixels n).polls = s.polls := rfl
@[simp] theorem dropPixels_envCfg (n : Nat) : (s.dropPixels n).envCfg = s.envCfg := rfl
@[simp] theorem dropPixels_controller (n : Nat) : (s.dropPixels n).controller = s.controller := rfl
@[simp] theorem dropPixels_agenda (n : Nat) : (s.dropPixels n).agenda = s.agenda := rfl

/-! ### fillChunk -/

@[simp] theorem fillChunk_cfg (qs : List Half) : (s.fillChunk qs).cfg = s.cfg := rfl
@[simp] theorem fillChunk_crcAcc (qs : List Half) : (s.fillChunk qs).crcAcc = s.crcAcc := rfl
@[simp] theorem fillChunk_crcValid (qs : List Half) : (s.fillChunk qs).crcValid = s.crcValid := rfl
@[simp] theorem fillChunk_txState (qs : List Half) : (s.fillChunk qs).txState = s.txState := rfl
@[simp] theorem fillChunk_txCrc (qs : List Half) : (s.fillChunk qs).txCrc = s.txCrc := rfl
@[simp] theorem fillChunk_txRemain (qs : List Half) : (s.fillChunk qs).txRemain = s.txRemain := rfl
@[simp] theorem fillChunk_chunkBuf (qs : List Half) : (s.fillChunk qs).chunkBuf = writeBytes s.chunkBuf 0 (samplesBytes s.cfg.endian qs) := rfl
@[simp] theorem fillChunk_rxBuf (qs : List Half) : (s.fillChunk qs).rxBuf = s.rxBuf := rfl
@[simp] theorem fillChunk_rxCount (qs : List Half) : (s.fillChunk qs).rxCount = s.rxCount := rfl
@[simp] theorem fillChunk_rxReady (qs : List Half) : (s.fillChunk qs).rxReady = s.rxReady := rfl
@[simp] theorem fillChunk_rxOvf (qs : List Half) : (s.fillChunk qs).rxOvf = s.rxOvf := rfl
@[simp] theorem fillChunk_txOut (qs : List Half) : (s.fillChunk qs).txOut = s.txOut := rfl
@[simp] theorem fillChunk_result (qs : List Half) : (s.fillChunk qs).result = s.result := rfl
@[simp] theorem fillChunk_cfgIn (qs : List Half) : (s.fillChunk qs).cfgIn = s.cfgIn := rfl
@[simp] theorem fillChunk_captureReady (qs : List Half) : (s.fillChunk qs).captureReady = s.captureReady := rfl
@[simp] theorem fillChunk_pixels (qs : List Half) : (s.fillChunk qs).pixels = s.pixels := rfl
@[simp] theorem fillChunk_sinkHangsAt (qs : List Half) : (s.fillChunk qs).sinkHangsAt = s.sinkHangsAt := rfl
@[simp] theorem fillChunk_between (qs : List Half) : (s.fillChunk qs).between = s.between := rfl
@[simp] theorem fillChunk_consumedSignals (qs : List Half) : (s.fillChunk qs).consumedSignals = s.consumedSignals := rfl
@[simp] theorem fillChunk_regWrites (qs : List Half) : (s.fillChunk qs).regWrites = s.regWrites := rfl
@[simp] theorem fillChunk_regReads (qs : List Half) : (s.fillChunk qs).regReads = s.regReads := rfl
@[simp] theorem fillChunk_consumed (qs : List Half) : (s.fillChunk qs).consumed = s.consumed := rfl
@[simp] theorem fillChunk_handshake (qs : List Half) : (s.fillChunk qs).handshake = s.handshake := rfl
@[simp] theorem fillChunk_waiting (qs : List Half) : (s.fillChunk qs).waiting = s.waiting := rfl
@[simp] theorem fillChunk_polls (qs : List Half) : (s.fillChunk qs).polls = s.polls := rfl
@[simp] theorem fillChunk_envCfg (qs : List Half) : (s.fillChunk qs).envCfg = s.envCfg := rfl
@[simp] theorem fillChunk_controller (qs : List Half) : (s.fillChunk qs).controller = s.controller := rfl
@[simp] theorem fillChunk_agenda (qs : List Half) : (s.fillChunk qs).agenda = s.agenda := rfl

/-! ### signalConsumed -/

@[simp] theorem signalConsumed_cfg : (s.signalConsumed).cfg = s.cfg := rfl
@[simp] theorem signalConsumed_crcAcc : (s.signalConsumed).crcAcc = s.crcAcc := rfl
@[simp] theorem signalConsumed_crcValid : (s.signalConsumed).crcValid = s.crcValid := rfl
@[simp] theorem signalConsumed_txState : (s.signalConsumed).txState = s.txState := rfl
@[simp] theorem signalConsumed_txCrc : (s.signalConsumed).txCrc = s.txCrc := rfl
@[simp] theorem signalConsumed_txRemain : (s.signalConsumed).txRemain = s.txRemain := rfl
@[simp] theorem signalConsumed_chunkBuf : (s.signalConsumed).chunkBuf = s.chunkBuf := rfl
@[simp] theorem signalConsumed_rxBuf : (s.signalConsumed).rxBuf = s.rxBuf := rfl
@[simp] theorem signalConsumed_rxCount : (s.signalConsumed).rxCount = s.rxCount := rfl
@[simp] theorem signalConsumed_rxReady : (s.signalConsumed).rxReady = s.rxReady := rfl
@[simp] theorem signalConsumed_rxOvf : (s.signalConsumed).rxOvf = s.rxOvf := rfl
@[simp] theorem signalConsumed_txOut : (s.signalConsumed).txOut = s.txOut := rfl
@[simp] theorem signalConsumed_result : (s.signalConsumed).result = s.result := rfl
@[simp] theorem signalConsumed_cfgIn : (s.signalConsumed).cfgIn = s.cfgIn := rfl
@[simp] theorem signalConsumed_captureReady : (s.signalConsumed).captureReady = false := rfl
@[simp] theorem signalConsumed_pixels : (s.signalConsumed).pixels = s.pixels := rfl
@[simp] theorem signalConsumed_sinkHangsAt : (s.signalConsumed).sinkHangsAt = s.sinkHangsAt := rfl
@[simp] theorem signalConsumed_between : (s.signalConsumed).between = s.between := rfl
@[simp] theorem signalConsumed_consumedSignals : (s.signalConsumed).consumedSignals = s.consumedSignals + 1 := rfl
@[simp] theorem signalConsumed_regWrites : (s.signalConsumed).regWrites = s.regWrites := rfl
@[simp] theorem signalConsumed_regReads : (s.signalConsumed).regReads = s.regReads := rfl
@[simp] theorem signalConsumed_consumed : (s.signalConsumed).consumed = s.consumed := rfl
@[simp] theorem signalConsumed_handshake : (s.signalConsumed).handshake = s.handshake := rfl
@[simp] theorem signalConsumed_waiting : (s.signalConsumed).waiting = s.waiting := rfl
@[simp] theorem signalConsumed_polls : (s.signalConsumed).polls = s.polls := rfl
@[simp] theorem signalConsumed_envCfg : (s.signalConsumed).envCfg = s.envCfg := rfl
@[simp] theorem signalConsumed_controller : (s.signalConsumed).controller = s.controller := rfl
@[simp] theorem signalConsumed_agenda : (s.signalConsumed).agenda = s.agenda := rfl

/-! ### storeRx -/

@[simp] theorem storeRx_cfg (b : Byte) : (s.storeRx b).cfg = s.cfg := rfl
@[simp] theorem storeRx_crcAcc (b : Byte) : (s.storeRx b).crcAcc = s.crcAcc := rfl
@[simp] theorem storeRx_crcValid (b : Byte) : (s.storeRx b).crcValid = s.crcValid := rfl
@[simp] theorem storeRx_txState (b : Byte) : (s.storeRx b).txState = s.txState := rfl
@[simp] theorem storeRx_txCrc (b : Byte) : (s.storeRx b).txCrc = s.txCrc := rfl
@[simp] theorem storeRx_txRemain (b : Byte) : (s.storeRx b).txRemain = s.txRemain := rfl
@[simp] theorem storeRx_chunkBuf (b : Byte) : (s.storeRx b).chunkBuf = s.chunkBuf := rfl
@[simp] theorem storeRx_rxBuf (b : Byte) : (s.storeRx b).rxBuf = writeByte s.rxBuf s.rxCount b := rfl
@[simp] theorem storeRx_rxCount (b : Byte) : (s.storeRx b).rxCount = s.rxCount + 1 := rfl
@[simp] theorem storeRx_rxReady (b : Byte) : (s.storeRx b).rxReady = s.rxReady := rfl
@[simp] theorem storeRx_rxOvf (b : Byte) : (s.storeRx b).rxOvf = s.rxOvf := rfl
@[simp] theorem storeRx_txOut (b : Byte) : (s.storeRx b).txOut = s.txOut := rfl
@[simp] theorem storeRx_result (b : Byte) : (s.storeRx b).result = s.result := rfl
@[simp] theorem storeRx_cfgIn (b : Byte) : (s.storeRx b).cfgIn = s.cfgIn := rfl
@[simp] theorem storeRx_captureReady (b : Byte) : (s.storeRx b).captureReady = s.captureReady := rfl
@[simp] theorem storeRx_pixels (b : Byte) : (s.storeRx b).pixels = s.pixels := rfl
@[simp] theorem storeRx_sinkHangsAt (b : Byte) : (s.storeRx b).sinkHangsAt = s.sinkHangsAt := rfl
@[simp] theorem storeRx_between (b : Byte) : (s.storeRx b).between = s.between := rfl
@[simp] theorem storeRx_consumedSignals (b : Byte) : (s.storeRx b).consumedSignals = s.consumedSignals := rfl
@[simp] theorem storeRx_regWrites (b : Byte) : (s.storeRx b).regWrites = s.regWrites := rfl
@[simp] theorem storeRx_regReads (b : Byte) : (s.storeRx b).regReads = s.regReads := rfl
@[simp] theorem storeRx_consumed (b : Byte) : (s.storeRx b).consumed = s.consumed := rfl
@[simp] theorem storeRx_handshake (b : Byte) : (s.storeRx b).handshake = s.handshake := rfl
@[simp] theorem storeRx_waiting (b : Byte) : (s.storeRx b).waiting = s.waiting := rfl
@[simp] theorem storeRx_polls (b : Byte) : (s.storeRx b).polls = s.polls := rfl
@[simp] theorem storeRx_envCfg (b : Byte) : (s.storeRx b).envCfg = s.envCfg := rfl
@[simp] theorem storeRx_controller (b : Byte) : (s.storeRx b).controller = s.controller := rfl
@[simp] theorem storeRx_agenda (b : Byte) : (s.storeRx b).agenda = s.agenda := rfl

/-! ### overflowRx -/

@[simp] theorem overflowRx_cfg : (s.overflowRx).cfg = s.cfg := rfl
@[simp] theorem overflowRx_crcAcc : (s.overflowRx).crcAcc = s.crcAcc := rfl
@[simp] theorem overflowRx_crcValid : (s.overflowRx).crcValid = s.crcValid := rfl
@[simp] theorem overflowRx_txState : (s.overflowRx).txState = s.txState := rfl
@[simp] theorem overflowRx_txCrc : (s.overflowRx).txCrc = s.txCrc := rfl
@[simp] theorem overflowRx_txRemain : (s.overflowRx).txRemain = s.txRemain := rfl
@[simp] theorem overflowRx_chunkBuf : (s.overflowRx).chunkBuf = s.chunkBuf := rfl
@[simp] theorem overflowRx_rxBuf : (s.overflowRx).rxBuf = s.rxBuf := rfl
@[simp] theorem overflowRx_rxCount : (s.overflowRx).rxCount = s.rxCount := rfl
@[simp] theorem overflowRx_rxReady : (s.overflowRx).rxReady = s.rxReady := rfl
@[simp] theorem overflowRx_rxOvf : (s.overflowRx).rxOvf = true := rfl
@[simp] theorem overflowRx_txOut : (s.overflowRx).txOut = s.txOut := rfl
@[simp] theorem overflowRx_result : (s.overflowRx).result = s.result := rfl
@[simp] theorem overflowRx_cfgIn : (s.overflowRx).cfgIn = s.cfgIn := rfl
@[simp] theorem overflowRx_captureReady : (s.overflowRx).captureReady = s.captureReady := rfl
@[simp] theorem overflowRx_pixels : (s.overflowRx).pixels = s.pixels := rfl
@[simp] theorem overflowRx_sinkHangsAt : (s.overflowRx).sinkHangsAt = s.sinkHangsAt := rfl
@[simp] theorem overflowRx_between : (s.overflowRx).between = s.between := rfl
@[simp] theorem overflowRx_consumedSignals : (s.overflowRx).consumedSignals = s.consumedSignals := rfl
@[simp] theorem overflowRx_regWrites : (s.overflowRx).regWrites = s.regWrites := rfl
@[simp] theorem overflowRx_regReads : (s.overflowRx).regReads = s.regReads := rfl
@[simp] theorem overflowRx_consumed : (s.overflowRx).consumed = s.consumed := rfl
@[simp] theorem overflowRx_handshake : (s.overflowRx).handshake = s.handshake := rfl
@[simp] theorem overflowRx_waiting : (s.overflowRx).waiting = s.waiting := rfl
@[simp] theorem overflowRx_polls : (s.overflowRx).polls = s.polls := rfl
@[simp] theorem overflowRx_envCfg : (s.overflowRx).envCfg = s.envCfg := rfl
@[simp] theorem overflowRx_controller : (s.overflowRx).controller = s.controller := rfl
@[simp] theorem overflowRx_agenda : (s.overflowRx).agenda = s.agenda := rfl

/-! ### clearChannel -/

@[simp] theorem clearChannel_cfg : (s.clearChannel).cfg = s.cfg := rfl
@[simp] theorem clearChannel_crcAcc : (s.clearChannel).crcAcc = s.crcAcc := rfl
@[simp] theorem clearChannel_crcValid : (s.clearChannel).crcValid = s.crcValid := rfl
@[simp] theorem clearChannel_txState : (s.clearChannel).txState = s.txState := rfl
@[simp] theorem clearChannel_txCrc : (s.clearChannel).txCrc = s.txCrc := rfl
@[simp] theorem clearChannel_txRemain : (s.clearChannel).txRemain = s.txRemain := rfl
@[simp] theorem clearChannel_chunkBuf : (s.clearChannel).chunkBuf = s.chunkBuf := rfl
@[simp] theorem clearChannel_rxBuf : (s.clearChannel).rxBuf = s.rxBuf := rfl
@[simp] theorem clearChannel_rxCount : (s.clearChannel).rxCount = 0 := rfl
@[simp] theorem clearChannel_rxReady : (s.clearChannel).rxReady = false := rfl
@[simp] theorem clearChannel_rxOvf : (s.clearChannel).rxOvf = false := rfl
@[simp] theorem clearChannel_txOut : (s.clearChannel).txOut = s.txOut := rfl
@[simp] theorem clearChannel_result : (s.clearChannel).result = s.result := rfl
@[simp] theorem clearChannel_cfgIn : (s.clearChannel).cfgIn = s.cfgIn := rfl
@[simp] theorem clearChannel_captureReady : (s.clearChannel).captureReady = s.captureReady := rfl
@[simp] theorem clearChannel_pixels : (s.clearChannel).pixels = s.pixels := rfl
@[simp] theorem clearChannel_sinkHangsAt : (s.clearChannel).sinkHangsAt = s.sinkHangsAt := rfl
@[simp] theorem clearChannel_between : (s.clearChannel).between = s.between := rfl
@[simp] theorem clearChannel_consumedSignals : (s.clearChannel).consumedSignals = s.consumedSignals := rfl
@[simp] theorem clearChannel_regWrites : (s.clearChannel).regWrites = s.regWrites := rfl
@[simp] theorem clearChannel_regReads : (s.clearChannel).regReads = s.regReads := rfl
@[simp] theorem clearChannel_consumed : (s.clearChannel).consumed = s.consumed := rfl
@[simp] theorem clearChannel_handshake : (s.clearChannel).handshake = s.handshake := rfl
@[simp] theorem clearChannel_waiting : (s.clearChannel).waiting = s.waiting := rfl
@[simp] theorem clearChannel_polls : (s.clearChannel).polls = s.polls := rfl
@[simp] theorem clearChannel_envCfg : (s.clearChannel).envCfg = s.envCfg := rfl
@[simp] theorem clearChannel_controller : (s.clearChannel).controller = s.controller := rfl
@[simp] theorem clearChannel_agenda : (s.clearChannel).agenda = s.agenda := rfl

/-! ### lowerReady -/

@[simp] theorem lowerReady_cfg : (s.lowerReady).cfg = s.cfg := rfl
@[simp] theorem lowerReady_crcAcc : (s.lowerReady).crcAcc = s.crcAcc := rfl
@[simp] theorem lowerReady_crcValid : (s.lowerReady).crcValid = s.crcValid := rfl
@[simp] theorem lowerReady_txState : (s.lowerReady).txState = s.txState := rfl
@[simp] theorem lowerReady_txCrc : (s.lowerReady).txCrc = s.txCrc := rfl
@[simp] theorem lowerReady_txRemain : (s.lowerReady).txRemain = s.txRemain := rfl
@[simp] theorem lowerReady_chunkBuf : (s.lowerReady).chunkBuf = s.chunkBuf := rfl
@[simp] theorem lowerReady_rxBuf : (s.lowerReady).rxBuf = s.rxBuf := rfl
@[simp] theorem lowerReady_rxCount : (s.lowerReady).rxCount = s.rxCount := rfl
@[simp] theorem lowerReady_rxReady : (s.lowerReady).rxReady = false := rfl
@[simp] theorem lowerReady_rxOvf : (s.lowerReady).rxOvf = s.rxOvf := rfl
@[simp] theorem lowerReady_txOut : (s.lowerReady).txOut = s.txOut := rfl
@[simp] theorem lowerReady_result : (s.lowerReady).result = s.result := rfl
@[simp] theorem lowerReady_cfgIn : (s.lowerReady).cfgIn = s.cfgIn := rfl
@[simp] theorem lowerReady_captureReady : (s.lowerReady).captureReady = s.captureReady := rfl
@[simp] theorem lowerReady_pixels : (s.lowerReady).pixels = s.pixels := rfl
@[simp] theorem lowerReady_sinkHangsAt : (s.lowerReady).sinkHangsAt = s.sinkHangsAt := rfl
@[simp] theorem lowerReady_between : (s.lowerReady).between = s.between := rfl
@[simp] theorem lowerReady_consumedSignals : (s.lowerReady).consumedSignals = s.consumedSignals := rfl
@[simp] theorem lowerReady_regWrites : (s.lowerReady).regWrites = s.regWrites := rfl
@[simp] theorem lowerReady_regReads : (s.lowerReady).regReads = s.regReads := rfl
@[simp] theorem lowerReady_consumed : (s.lowerReady).consumed = s.consumed := rfl
@[simp] theorem lowerReady_handshake : (s.lowerReady).handshake = s.handshake := rfl
@[simp] theorem lowerReady_waiting : (s.lowerReady).waiting = s.waiting := rfl
@[simp] theorem lowerReady_polls : (s.lowerReady).polls = s.polls := rfl
@[simp] theorem lowerReady_envCfg : (s.lowerReady).envCfg = s.envCfg := rfl
@[simp] theorem lowerReady_controller : (s.lowerReady).controller = s.controller := rfl
@[simp] theorem lowerReady_agenda : (s.lowerReady).agenda = s.agenda := rfl

/-! ### receiveClass -/

@[simp] theorem receiveClass_cfg (c : FrameClass) : (s.receiveClass c).cfg = s.cfg := rfl
@[simp] theorem receiveClass_crcAcc (c : FrameClass) : (s.receiveClass c).crcAcc = s.crcAcc := rfl
@[simp] theorem receiveClass_crcValid (c : FrameClass) : (s.receiveClass c).crcValid = s.crcValid := rfl
@[simp] theorem receiveClass_txState (c : FrameClass) : (s.receiveClass c).txState = s.txState := rfl
@[simp] theorem receiveClass_txCrc (c : FrameClass) : (s.receiveClass c).txCrc = s.txCrc := rfl
@[simp] theorem receiveClass_txRemain (c : FrameClass) : (s.receiveClass c).txRemain = s.txRemain := rfl
@[simp] theorem receiveClass_chunkBuf (c : FrameClass) : (s.receiveClass c).chunkBuf = s.chunkBuf := rfl
@[simp] theorem receiveClass_rxBuf (c : FrameClass) : (s.receiveClass c).rxBuf = s.rxBuf := rfl
@[simp] theorem receiveClass_rxCount (c : FrameClass) : (s.receiveClass c).rxCount = s.rxCount := rfl
@[simp] theorem receiveClass_rxReady (c : FrameClass) : (s.receiveClass c).rxReady = s.rxReady := rfl
@[simp] theorem receiveClass_rxOvf (c : FrameClass) : (s.receiveClass c).rxOvf = s.rxOvf := rfl
@[simp] theorem receiveClass_txOut (c : FrameClass) : (s.receiveClass c).txOut = s.txOut := rfl
@[simp] theorem receiveClass_result (c : FrameClass) : (s.receiveClass c).result = s.result := rfl
@[simp] theorem receiveClass_cfgIn (c : FrameClass) : (s.receiveClass c).cfgIn = s.cfgIn := rfl
@[simp] theorem receiveClass_captureReady (c : FrameClass) : (s.receiveClass c).captureReady = s.captureReady := rfl
@[simp] theorem receiveClass_pixels (c : FrameClass) : (s.receiveClass c).pixels = s.pixels := rfl
@[simp] theorem receiveClass_sinkHangsAt (c : FrameClass) : (s.receiveClass c).sinkHangsAt = s.sinkHangsAt := rfl
@[simp] theorem receiveClass_between (c : FrameClass) : (s.receiveClass c).between = s.between := rfl
@[simp] theorem receiveClass_consumedSignals (c : FrameClass) : (s.receiveClass c).consumedSignals = s.consumedSignals := rfl
@[simp] theorem receiveClass_regWrites (c : FrameClass) : (s.receiveClass c).regWrites = s.regWrites := rfl
@[simp] theorem receiveClass_regReads (c : FrameClass) : (s.receiveClass c).regReads = s.regReads := rfl
@[simp] theorem receiveClass_consumed (c : FrameClass) : (s.receiveClass c).consumed = s.consumed ++ [c] := rfl
@[simp] theorem receiveClass_handshake (c : FrameClass) : (s.receiveClass c).handshake = s.handshake := rfl
@[simp] theorem receiveClass_waiting (c : FrameClass) : (s.receiveClass c).waiting = s.waiting := rfl
@[simp] theorem receiveClass_polls (c : FrameClass) : (s.receiveClass c).polls = s.polls := rfl
@[simp] theorem receiveClass_envCfg (c : FrameClass) : (s.receiveClass c).envCfg = s.envCfg := rfl
@[simp] theorem receiveClass_controller (c : FrameClass) : (s.receiveClass c).controller = s.controller := rfl
@[simp] theorem receiveClass_agenda (c : FrameClass) : (s.receiveClass c).agenda = s.agenda := rfl

end Sys2Proof.Machine
end

