-- ==== Sys2Proof/Laws/Memory.lean ====
section
/-! SUPPORT. The laws of the byte buffers: read after write, and that every write keeps the canonical form and stays below the
buffer's size. -/

namespace Sys2Proof.Machine

theorem wfFrom_mono {lo hi : Nat} (h : lo ≤ hi) : ∀ {m : Memory}, m.wfFrom hi = true → m.wfFrom lo = true
  | [], _ => rfl
  | (a, b) :: m, hm => by
    simp only [Memory.wfFrom, Bool.and_eq_true, decide_eq_true_eq] at hm ⊢
    exact ⟨⟨Nat.le_trans h hm.1.1, hm.1.2⟩, hm.2⟩

/-- Below the first listed index a buffer reads as unlisted. -/
theorem readByte_of_lt {lo a : Nat} (h : a < lo) : ∀ {m : Memory}, m.wfFrom lo = true → readByte m a = Memory.unlisted
  | [], _ => rfl
  | (k, b) :: m, hm => by
    simp only [Memory.wfFrom, Bool.and_eq_true, decide_eq_true_eq] at hm
    have hne : a ≠ k := by omega
    rw [readByte, if_neg hne]
    exact readByte_of_lt (lo := k + 1) (by omega) hm.2

theorem readByte_writeByte_ne (m : Memory) {a c : Nat} (b : Byte) (h : c ≠ a) :
    readByte (writeByte m a b) c = readByte m c := by
  induction m with
  | nil => simp only [writeByte]; split <;> simp [readByte, h]
  | cons cell m ih =>
    obtain ⟨k, v⟩ := cell
    simp only [writeByte]
    split
    · split <;> simp [readByte, h]
    · split
      · next hak => subst hak; split <;> simp [readByte, h]
      · simp only [readByte, ih]

theorem readByte_writeByte_same {lo : Nat} {m : Memory} (hm : m.wfFrom lo = true) (a : Nat) (b : Byte) :
    readByte (writeByte m a b) a = b := by
  induction m generalizing lo with
  | nil => simp only [writeByte]; split <;> simp_all [readByte]
  | cons cell m ih =>
    obtain ⟨k, v⟩ := cell
    simp only [Memory.wfFrom, Bool.and_eq_true, decide_eq_true_eq] at hm
    simp only [writeByte]
    split
    · next hlt =>
      split
      · next hb => rw [readByte, if_neg (by omega), readByte_of_lt (lo := k + 1) (by omega) hm.2, hb]
      · simp [readByte]
    · split
      · next hak =>
        subst hak
        split
        · next hb => rw [readByte_of_lt (lo := a + 1) (by omega) hm.2, hb]
        · simp [readByte]
      · next hak => rw [readByte, if_neg hak]; exact ih hm.2

theorem writeByte_wfFrom {lo : Nat} {m : Memory} (hm : m.wfFrom lo = true) {a : Nat} (ha : lo ≤ a) (b : Byte) :
    (writeByte m a b).wfFrom lo = true := by
  induction m generalizing lo with
  | nil => simp only [writeByte]; split <;> simp_all [Memory.wfFrom]
  | cons cell m ih =>
    obtain ⟨k, v⟩ := cell
    have hm' := hm
    simp only [Memory.wfFrom, Bool.and_eq_true, decide_eq_true_eq] at hm'
    simp only [writeByte]
    split
    · split
      · exact hm
      · simp_all [Memory.wfFrom]
    · split
      · next hak =>
        subst hak
        split
        · exact wfFrom_mono (by omega) hm'.2
        · simp_all [Memory.wfFrom]
      · have := ih hm'.2 (by omega)
        simp_all [Memory.wfFrom]

/-- Every write keeps the canonical form. -/
theorem writeByte_wf {m : Memory} (hm : m.wf = true) (a : Nat) (b : Byte) : (writeByte m a b).wf = true :=
  writeByte_wfFrom hm (Nat.zero_le a) b

theorem below_iff {size : Nat} {m : Memory} : m.below size = true ↔ ∀ c ∈ m, c.1 < size := by
  simp only [Memory.below, List.all_eq_true, decide_eq_true_eq]

theorem mem_of_mem_writeByte {m : Memory} {a : Nat} {b : Byte} {c : Host.Cell} (h : c ∈ writeByte m a b) :
    c ∈ m ∨ c = (a, b) := by
  induction m with
  | nil => simp only [writeByte] at h; split at h <;> simp_all
  | cons cell m ih =>
    obtain ⟨k, v⟩ := cell
    simp only [writeByte] at h
    split at h
    · split at h <;> simp only [List.mem_cons] at h ⊢ <;> tauto
    · split at h
      · split at h <;> simp only [List.mem_cons] at h ⊢ <;> tauto
      · simp only [List.mem_cons] at h ⊢
        tauto

theorem writeByte_below {size : Nat} {m : Memory} (hm : m.below size = true) {a : Nat} (ha : a < size) (b : Byte) :
    (writeByte m a b).below size = true := by
  rw [below_iff] at hm ⊢
  intro c hc
  rcases mem_of_mem_writeByte hc with h | h
  · exact hm c h
  · rw [h]; exact ha

@[simp] theorem readBytes_length (m : Memory) (a n : Nat) : (readBytes m a n).length = n := by
  induction n generalizing a with
  | zero => rfl
  | succ n ih => simp [readBytes, ih]

theorem readBytes_congr {m m' : Memory} {a n : Nat} (h : ∀ c, a ≤ c → c < a + n → readByte m c = readByte m' c) :
    readBytes m a n = readBytes m' a n := by
  induction n generalizing a with
  | zero => rfl
  | succ n ih =>
    simp only [readBytes]
    rw [h a (Nat.le_refl a) (by omega), ih fun c h1 h2 => h c (by omega) (by omega)]

theorem readBytes_append (m : Memory) (a n k : Nat) :
    readBytes m a (n + k) = readBytes m a n ++ readBytes m (a + n) k := by
  induction n generalizing a with
  | zero => simp [readBytes]
  | succ n ih => simp [Nat.succ_add, readBytes, ih, Nat.add_assoc]

theorem writeBytes_wf {m : Memory} (hm : m.wf = true) (a : Nat) (bs : List Byte) : (writeBytes m a bs).wf = true := by
  induction bs generalizing m a with
  | nil => exact hm
  | cons b bs ih => exact ih (writeByte_wf hm a b) (a + 1)

theorem writeBytes_below {size : Nat} {m : Memory} (hm : m.below size = true) {a : Nat} {bs : List Byte}
    (h : a + bs.length ≤ size) : (writeBytes m a bs).below size = true := by
  induction bs generalizing m a with
  | nil => exact hm
  | cons b bs ih =>
    simp only [List.length_cons] at h
    exact ih (writeByte_below hm (by omega) b) (by omega)

theorem readByte_writeBytes_outside (m : Memory) {a c : Nat} {bs : List Byte} (h : c < a ∨ a + bs.length ≤ c) :
    readByte (writeBytes m a bs) c = readByte m c := by
  induction bs generalizing m a with
  | nil => rfl
  | cons b bs ih =>
    simp only [List.length_cons] at h
    rw [writeBytes, ih _ (by omega), readByte_writeByte_ne _ _ (by omega)]

/-- What was stored is read back. -/
theorem readBytes_writeBytes {m : Memory} (hm : m.wf = true) (a : Nat) (bs : List Byte) :
    readBytes (writeBytes m a bs) a bs.length = bs := by
  induction bs generalizing m a with
  | nil => rfl
  | cons b bs ih =>
    simp only [List.length_cons, readBytes, writeBytes]
    rw [ih (writeByte_wf hm a b), readByte_writeBytes_outside _ (by omega),
      readByte_writeByte_same (lo := 0) hm]

end Sys2Proof.Machine
end

