-- ==== Sys2Proof/Laws/Words.lean ====
section
/-! SUPPORT. Small laws of the wire fields and of the CRC function: assembling and taking apart (30_encoding.md R62), lengths,
and the CRC as a fold (40_crc_engine.md R91). -/

namespace Sys2Proof.Machine

theorem joinBytes_hi_lo (v : Half) : joinBytes (hiByte v) (loByte v) = v := by
  apply BitVec.eq_of_getLsbD_eq
  intro i hi
  simp only [joinBytes, hiByte, loByte, BitVec.getLsbD_append, BitVec.getLsbD_extractLsb']
  by_cases h : i < 8
  · simp [h]
  · have h8 : i - 8 < 8 := by omega
    have : 8 + (i - 8) = i := by omega
    simp [h, h8, this]

@[simp] theorem hiByte_joinBytes (h l : Byte) : hiByte (joinBytes h l) = h := by
  apply BitVec.eq_of_getLsbD_eq
  intro i hi
  simp only [joinBytes, hiByte, BitVec.getLsbD_append, BitVec.getLsbD_extractLsb']
  have h1 : ¬ 8 + i < 8 := by omega
  simp [hi, h1]

@[simp] theorem loByte_joinBytes (h l : Byte) : loByte (joinBytes h l) = l := by
  apply BitVec.eq_of_getLsbD_eq
  intro i hi
  simp only [joinBytes, loByte, BitVec.getLsbD_append, BitVec.getLsbD_extractLsb']
  simp [hi]

@[simp] theorem enc16_length (e : WireEndian) (v : Half) : (enc16 e v).length = 2 := by
  cases e <;> rfl

@[simp] theorem enc32_length (e : WireEndian) (v : Word) : (enc32 e v).length = 4 := by
  cases e <;> rfl

@[simp] theorem magicBytes_length (m : Magic) : (magicBytes m).length = 4 := rfl

@[simp] theorem header_length (c : Configuration) (addr cmd : Byte) (n : Nat) : (header c addr cmd n).length = 10 := by
  simp [header]

@[simp] theorem frameBody_length (c : Configuration) (addr cmd : Byte) (p : List Byte) :
    (frameBody c addr cmd p).length = 10 + p.length := by
  simp [frameBody]

@[simp] theorem frameBytes_length (c : Configuration) (addr cmd : Byte) (p : List Byte) :
    (frameBytes c addr cmd p).length = frameLength p.length := by
  simp [frameBytes, frameLength]

@[simp] theorem samplesBytes_length (e : WireEndian) (qs : List Half) : (samplesBytes e qs).length = 2 * qs.length := by
  induction qs with
  | nil => rfl
  | cons q qs ih => simp [samplesBytes, ih]; omega

theorem samplesBytes_append (e : WireEndian) (qs rs : List Half) :
    samplesBytes e (qs ++ rs) = samplesBytes e qs ++ samplesBytes e rs := by
  induction qs with
  | nil => rfl
  | cons q qs ih => simp [samplesBytes, ih]

@[simp] theorem crc16Update_nil (acc : Half) : crc16Update acc [] = acc := rfl

@[simp] theorem crc16Update_cons (acc : Half) (b : Byte) (bs : List Byte) :
    crc16Update acc (b :: bs) = crc16Update (crc16Byte acc b) bs := rfl

/-- The fold over a concatenation is the fold over the second part started from the fold over the first. -/
theorem crc16Update_append (acc : Half) (as bs : List Byte) :
    crc16Update acc (as ++ bs) = crc16Update (crc16Update acc as) bs := List.foldl_append

theorem natOfBytes_bytesOfNatFuel (fuel n : Nat) (h : n ≤ fuel) : natOfBytes (bytesOfNatFuel fuel n) = n := by
  induction fuel generalizing n with
  | zero => simp only [Nat.le_zero] at h; subst h; rfl
  | succ fuel ih =>
    simp only [bytesOfNatFuel]
    split
    · next h0 => subst h0; rfl
    · next h0 =>
      rw [natOfBytes, ih (n / 256) (by omega), BitVec.toNat_ofNat]
      omega

theorem natOfBytes_bytesOfNat (n : Nat) : natOfBytes (bytesOfNat n) = n :=
  natOfBytes_bytesOfNatFuel n n (Nat.le_refl n)

end Sys2Proof.Machine
end

