-- ==== Sys2Proof/Laws/Channel.lean ====
section
/-! SUPPORT. What the receive channel's operations can do, said once. -/

namespace Sys2Proof.Machine

/-- RX_BYTE's two ends (R160). -/
theorem rxByte_cases (b : Byte) (s : State) :
    (s.rxCount < s.cfg.rxBufSize.val ∧ rxByte b s = s.storeRx b)
      ∨ (s.cfg.rxBufSize.val ≤ s.rxCount ∧ rxByte b s = s.overflowRx) := by
  by_cases h : s.cfg.rxBufSize.val ≤ s.rxCount
  · exact .inr ⟨h, by simp [rxByte, rxFull, h]⟩
  · exact .inl ⟨Nat.lt_of_not_le h, by simp [rxByte, rxFull, h]⟩

theorem rxByte_room {s : State} (h : s.rxCount < s.cfg.rxBufSize.val) (b : Byte) : rxByte b s = s.storeRx b := by
  simp [rxByte, rxFull, Nat.not_le_of_lt h]

/-- RX_DECODE's two ends (R162, R163). -/
theorem rxDecode_cases (s : State) :
    (s.rxReady = false ∧ rxDecode s = (none, s))
      ∨ (s.rxReady = true ∧ rxDecode s = (some (checkBuffer s), afterDecode s (checkBuffer s))) := by
  cases h : s.rxReady <;> simp [rxDecode, h]

/-- After an attempt the flag is down (R163). -/
@[simp] theorem afterDecode_rxReady (s : State) (f : FrameCheck) : (afterDecode s f).rxReady = false := by
  cases f <;> rfl

@[simp] theorem afterDecode_rxBuf (s : State) (f : FrameCheck) : (afterDecode s f).rxBuf = s.rxBuf := by
  cases f <;> rfl

@[simp] theorem afterDecode_cfg (s : State) (f : FrameCheck) : (afterDecode s f).cfg = s.cfg := by
  cases f <;> rfl

/-- After an attempt that did more than look for the header the channel is clear (R171). -/
theorem afterDecode_of_ne {s : State} {f : FrameCheck} (h : f ≠ .incomplete) : afterDecode s f = s.clearChannel := by
  cases f <;> first | rfl | exact absurd rfl h

@[simp] theorem bufferedBytes_length (s : State) : (bufferedBytes s).length = s.rxCount := by
  simp [bufferedBytes]

/-- A byte that finds room is appended to the buffered bytes. -/
theorem bufferedBytes_storeRx {s : State} (hm : s.rxBuf.wf = true) (b : Byte) :
    bufferedBytes (s.storeRx b) = bufferedBytes s ++ [b] := by
  simp only [bufferedBytes, storeRx_rxBuf, storeRx_rxCount, readBytes_append, Nat.zero_add]
  congr 1
  · exact readBytes_congr fun c _ hc => readByte_writeByte_ne _ _ (by omega)
  · simp [readBytes, readByte_writeByte_same (lo := 0) hm]

/-- Bytes that find room are appended in arrival order (R51). -/
theorem bytes_appended {s : State} (bs : List Byte) (hm : s.rxBuf.wf = true)
    (h : s.rxCount + bs.length ≤ s.cfg.rxBufSize.val) :
    ∃ m, rxEvents s (bs.map RxEvent.byte) = { s with rxBuf := m, rxCount := s.rxCount + bs.length } ∧ m.wf = true
      ∧ readBytes m 0 (s.rxCount + bs.length) = bufferedBytes s ++ bs := by
  induction bs generalizing s with
  | nil => exact ⟨s.rxBuf, rfl, hm, by simp [bufferedBytes]⟩
  | cons b bs ih =>
    simp only [List.length_cons] at h
    have hroom : rxByte b s = s.storeRx b := rxByte_room (by omega) b
    obtain ⟨m, h1, h2, h3⟩ := ih (s := s.storeRx b) (writeByte_wf hm _ _)
      (by simp only [storeRx_rxCount, storeRx_cfg]; omega)
    refine ⟨m, ?_, h2, ?_⟩
    · have : rxEvents s ((b :: bs).map RxEvent.byte) = rxEvents (s.storeRx b) (bs.map RxEvent.byte) := by
        simp [rxEvents, rxEvent, hroom]
      rw [this, h1]
      simp [State.storeRx, Nat.add_assoc, Nat.add_comm 1]
    · have e : s.rxCount + (b :: bs).length = (s.storeRx b).rxCount + bs.length := by
        simp only [List.length_cons, storeRx_rxCount]; omega
      rw [e, h3, bufferedBytes_storeRx hm]
      simp

/-- The byte of a buffer read as a list. -/
theorem byteAt_readBytes {m : Memory} {a n i : Nat} (h : i < n) : byteAt (readBytes m a n) i = readByte m (a + i) := by
  induction n generalizing a i with
  | zero => omega
  | succ n ih =>
    cases i with
    | zero => simp [byteAt, readBytes]
    | succ i =>
      have := ih (a := a + 1) (i := i) (by omega)
      simp only [byteAt, readBytes, List.getD_cons_succ] at this ⊢
      rw [this]
      congr 1
      omega

end Sys2Proof.Machine
end

