-- ==== Sys2Proof/Laws/Encoder.lean ====
section
/-! SUPPORT. What the encoder's and the chunker's operations can do, said once: one case lemma per primitive step, the equation
of each step where it goes through, and how a composite continues. -/

namespace Sys2Proof.Machine

/-! ### The sink -/

/-- A sink that returns from a later write returns from an earlier one. -/
theorem sinkReturnsAt_mono {s : State} {j k : Nat} (h : j ≤ k) (hk : s.sinkReturnsAt k = true) : s.sinkReturnsAt j = true := by
  unfold State.sinkReturnsAt at *
  cases hn : s.sinkHangsAt with
  | none => rfl
  | some n =>
    simp only [hn, decide_eq_true_eq] at *
    omega

/-- Bytes that go out bring later writes nearer. -/
@[simp] theorem sinkReturnsAt_emit (s : State) (bs : List Byte) (k : Nat) :
    (s.emit bs).sinkReturnsAt k = s.sinkReturnsAt (bs.length + k) := by
  simp [State.sinkReturnsAt, State.emit, Nat.add_assoc]

@[simp] theorem sinkReturnsAt_returning (s : State) (o : Returned) (k : Nat) :
    (s.returning o).sinkReturnsAt k = s.sinkReturnsAt k := rfl

@[simp] theorem sinkReturnsAt_openFrame (s : State) (addr cmd : Byte) (n k : Nat) :
    (s.openFrame addr cmd n).sinkReturnsAt k = s.sinkReturnsAt (10 + k) := by
  have := sinkReturnsAt_emit s (header s.cfg addr cmd n) k
  rwa [header_length] at this

@[simp] theorem sinkReturnsAt_sendPayload (s : State) (bs : List Byte) (k : Nat) :
    (s.sendPayload bs).sinkReturnsAt k = s.sinkReturnsAt (bs.length + k) :=
  sinkReturnsAt_emit s bs k

@[simp] theorem sinkReturnsAt_dropPixels (s : State) (n k : Nat) : (s.dropPixels n).sinkReturnsAt k = s.sinkReturnsAt k := rfl

@[simp] theorem sinkReturnsAt_fillChunk (s : State) (qs : List Half) (k : Nat) :
    (s.fillChunk qs).sinkReturnsAt k = s.sinkReturnsAt k := rfl

@[simp] theorem writeReturns_of_returns {s : State} (h : s.sinkReturnsAt 0 = true) (bs : List Byte) :
    writeReturns s bs = true := by
  simp [writeReturns, h]

/-- A write of at least one byte returns exactly where the sink does. -/
theorem writeReturns_of_ne_nil {s : State} {bs : List Byte} (h : bs ≠ []) : writeReturns s bs = s.sinkReturnsAt 0 := by
  cases bs with
  | nil => exact absurd rfl h
  | cons => simp [writeReturns]

@[simp] theorem writeReturns_nil (s : State) : writeReturns s [] = true := by simp [writeReturns]

/-- A composite goes on after a step that returned Ok. -/
theorem andThen_of_ok {s : State} (h : s.result = some .ok) (f : State → State) : s.andThen f = f s := by
  simp [State.andThen, h]

/-- A composite ends with a step that did not return Ok. -/
theorem andThen_of_not_ok {s : State} (h : s.result ≠ some .ok) (f : State → State) : s.andThen f = s := by
  simp [State.andThen, h]

theorem andThen_cases (s : State) (f : State → State) :
    (s.result = some .ok ∧ s.andThen f = f s) ∨ (s.result ≠ some .ok ∧ s.andThen f = s) := by
  by_cases h : s.result = some .ok
  · exact .inl ⟨h, andThen_of_ok h f⟩
  · exact .inr ⟨h, andThen_of_not_ok h f⟩

/-- TX_BEGIN's four ends (R113, R247). -/
theorem txBegin_cases (addr cmd : Byte) (plen : Nat) (s : State) :
    (s.txState = .payload ∧ txBegin addr cmd plen s = s.refusing .txBusy)
      ∨ (s.txState = .idle ∧ maxLength < frameLength plen ∧ txBegin addr cmd plen s = s.refusing .txLengthOverflow)
      ∨ (s.txState = .idle ∧ frameLength plen ≤ maxLength ∧ s.sinkReturnsAt 0 = true
          ∧ txBegin addr cmd plen s = (s.openFrame addr cmd plen).returning .ok)
      ∨ (s.txState = .idle ∧ frameLength plen ≤ maxLength ∧ s.sinkReturnsAt 0 = false
          ∧ txBegin addr cmd plen s = s.hanging .waitingForSink) := by
  unfold txBegin
  cases hs : s.txState <;> simp only [ne_eq, not_true_eq_false, if_false, reduceCtorEq, not_false_eq_true, if_true]
  · by_cases hl : maxLength < frameLength plen
    · simp [hl]
    · cases hr : s.sinkReturnsAt 0
      · have : (header s.cfg addr cmd plen).isEmpty = false := rfl
        simp [hl, writeReturns, hr, this, Nat.le_of_not_lt hl]
      · simp [hl, writeReturns, hr, Nat.le_of_not_lt hl]
  · simp

/-- TX_CHUNK's four ends (R115, R247). -/
theorem txChunk_cases (bs : List Byte) (s : State) :
    (s.txState = .idle ∧ txChunk bs s = s.refusing .txNotOpen)
      ∨ (s.txState = .payload ∧ s.txRemain.toNat < bs.length ∧ txChunk bs s = s.refusing .txOverrun)
      ∨ (s.txState = .payload ∧ bs.length ≤ s.txRemain.toNat ∧ writeReturns s bs = true
          ∧ txChunk bs s = (s.sendPayload bs).returning .ok)
      ∨ (s.txState = .payload ∧ bs.length ≤ s.txRemain.toNat ∧ s.sinkReturnsAt 0 = false
          ∧ txChunk bs s = s.hanging .waitingForSink) := by
  unfold txChunk
  cases hs : s.txState <;> simp only [ne_eq, not_true_eq_false, if_false, reduceCtorEq, not_false_eq_true, if_true]
  · simp
  · by_cases hl : s.txRemain.toNat < bs.length
    · simp [hl]
    · cases hw : writeReturns s bs
      · have hr : s.sinkReturnsAt 0 = false := by
          simp only [writeReturns, Bool.or_eq_false_iff] at hw
          exact hw.1
        simp [hl, hr, Nat.le_of_not_lt hl]
      · simp [hl, Nat.le_of_not_lt hl]

/-- TX_END's four ends (R117, R247). -/
theorem txEnd_cases (s : State) :
    (s.txState = .idle ∧ txEnd s = s.refusing .txNotOpen)
      ∨ (s.txState = .payload ∧ s.txRemain ≠ 0 ∧ txEnd s = s.refusing .txUnderrun)
      ∨ (s.txState = .payload ∧ s.txRemain = 0 ∧ s.sinkReturnsAt 0 = true ∧ txEnd s = s.closeFrame.returning .ok)
      ∨ (s.txState = .payload ∧ s.txRemain = 0 ∧ s.sinkReturnsAt 0 = false ∧ txEnd s = s.hanging .waitingForSink) := by
  unfold txEnd
  cases hs : s.txState <;> simp only [ne_eq, not_true_eq_false, if_false, reduceCtorEq, not_false_eq_true, if_true]
  · simp
  · by_cases hl : s.txRemain = 0
    · cases hr : s.sinkReturnsAt 0
      · have : (enc16 s.cfg.endian s.txCrc).isEmpty = false := by cases s.cfg.endian <;> rfl
        simp [hl, writeReturns, hr, this]
      · simp [hl, writeReturns, hr]
    · have hl' : ¬ s.txRemain = 0#32 := hl
      simp [hl']

theorem txBegin_ok {s : State} {plen : Nat} (hs : s.txState = .idle) (hl : frameLength plen ≤ maxLength)
    (hr : s.sinkReturnsAt 0 = true) (addr cmd : Byte) :
    txBegin addr cmd plen s = (s.openFrame addr cmd plen).returning .ok := by
  simp [txBegin, hs, Nat.not_lt_of_le hl, hr]

theorem txChunk_ok {s : State} {bs : List Byte} (hs : s.txState = .payload) (hl : bs.length ≤ s.txRemain.toNat)
    (hr : s.sinkReturnsAt 0 = true) : txChunk bs s = (s.sendPayload bs).returning .ok := by
  simp [txChunk, hs, Nat.not_lt_of_le hl, hr]

theorem txEnd_ok {s : State} (hs : s.txState = .payload) (hl : s.txRemain = 0) (hr : s.sinkReturnsAt 0 = true) :
    txEnd s = s.closeFrame.returning .ok := by
  simp [txEnd, hs, hl, hr]

/-- What `TX_REMAIN` counts after a piece that fits. -/
theorem remain_sub {r : Word} {n : Nat} (h : n ≤ r.toNat) : (r - BitVec.ofNat 32 n).toNat = r.toNat - n := by
  have := r.isLt
  rw [BitVec.toNat_sub, BitVec.toNat_ofNat, Nat.mod_eq_of_lt (by omega : n < 2 ^ 32)]
  omega

/-- A declared payload length that fits the length field is what `TX_REMAIN` holds. -/
theorem remain_ofNat {n : Nat} (h : frameLength n ≤ maxLength) : (BitVec.ofNat 32 n).toNat = n := by
  simp only [frameLength, maxLength] at h
  rw [BitVec.toNat_ofNat, Nat.mod_eq_of_lt (by omega)]

/-- One turn of TX_IMAGE's loop: the source runs short, or a chunk is pulled, stored and sent (R141, R149). -/
theorem imageChunk_cases (height : Nat) (s : State) :
    (s.pixels.length < height ∧ imageChunk height s = s.hanging .waitingForPixels)
      ∨ (height ≤ s.pixels.length ∧ imageChunk height s
          = txChunk (readBytes (writeBytes s.chunkBuf 0 (samplesBytes s.cfg.endian (s.pixels.take height))) 0 (2 * height))
              ((s.dropPixels height).fillChunk (s.pixels.take height))) := by
  by_cases h : s.pixels.length < height
  · exact .inl ⟨h, by simp [imageChunk, h]⟩
  · exact .inr ⟨Nat.le_of_not_lt h, by simp [imageChunk, h]⟩

/-- The chunk that is sent is the samples pulled, in wire order (R143). -/
theorem chunk_read_back {s : State} {height : Nat} (hm : s.chunkBuf.wf = true) (h : height ≤ s.pixels.length) :
    readBytes (writeBytes s.chunkBuf 0 (samplesBytes s.cfg.endian (s.pixels.take height))) 0 (2 * height)
      = samplesBytes s.cfg.endian (s.pixels.take height) := by
  have hlen : (samplesBytes s.cfg.endian (s.pixels.take height)).length = 2 * height := by simp [h]
  rw [← hlen]
  exact readBytes_writeBytes hm 0 _

end Sys2Proof.Machine
end

