-- ==== Sys2Proof/Laws/PerInstr.lean ====
section
/-! SUPPORT. Statements about every instruction as text, one lemma per constructor. -/

namespace Sys2Proof.Laws.Written

/-- An instruction is written in the form of its rows of the opcode table: an operation as a request whose first byte is its
select code (R76), a wire command as a frame whose command byte is its code (R64). -/
def Statement (i : Instr) : Prop :=
  ∀ codes : CommandCodes,
    (i.isOperation = true → ∃ ops, encode codes i = .operation (selectByte codes i :: ops))
      ∧ (i.isOperation = false → ∃ addr payload, encode codes i = .frame addr (selectByte codes i) payload)

theorem crcLoad (seed : Half) : Statement (.crcLoad seed) := fun _ => ⟨fun _ => ⟨_, rfl⟩, nofun⟩

theorem crcByte (b : Byte) : Statement (.crcByte b) := fun _ => ⟨fun _ => ⟨_, rfl⟩, nofun⟩

theorem crcBlock (bs : List Byte) : Statement (.crcBlock bs) := fun _ => ⟨fun _ => ⟨_, rfl⟩, nofun⟩

theorem crcRead : Statement (.crcRead) := fun _ => ⟨fun _ => ⟨_, rfl⟩, nofun⟩

theorem txBegin (addr : Byte) (cmd : Byte) (plen : Nat) : Statement (.txBegin addr cmd plen) := fun _ => ⟨fun _ => ⟨_, rfl⟩, nofun⟩

theorem txChunk (bs : List Byte) : Statement (.txChunk bs) := fun _ => ⟨fun _ => ⟨_, rfl⟩, nofun⟩

theorem txEnd : Statement (.txEnd) := fun _ => ⟨fun _ => ⟨_, rfl⟩, nofun⟩

theorem txFrame (addr : Byte) (cmd : Byte) (payload : List Byte) : Statement (.txFrame addr cmd payload) := fun _ => ⟨fun _ => ⟨_, rfl⟩, nofun⟩

theorem txAck (addr : Byte) (status : Byte) (seq : Half) (value : Byte) : Statement (.txAck addr status seq value) := fun _ => ⟨fun _ => ⟨_, rfl⟩, nofun⟩

theorem txFormatSet (addr : Byte) (fmt : Byte) (width : Half) (height : Half) : Statement (.txFormatSet addr fmt width height) := fun _ => ⟨fun _ => ⟨_, rfl⟩, nofun⟩

theorem txImage (addr : Byte) (width : Half) (height : Half) : Statement (.txImage addr width height) := fun _ => ⟨fun _ => ⟨_, rfl⟩, nofun⟩

theorem rxByte (b : Byte) : Statement (.rxByte b) := fun _ => ⟨fun _ => ⟨_, rfl⟩, nofun⟩

theorem rxBoundary : Statement (.rxBoundary) := fun _ => ⟨fun _ => ⟨_, rfl⟩, nofun⟩

theorem rxDecode : Statement (.rxDecode) := fun _ => ⟨fun _ => ⟨_, rfl⟩, nofun⟩

theorem rxProcess : Statement (.rxProcess) := fun _ => ⟨fun _ => ⟨_, rfl⟩, nofun⟩

theorem reset : Statement (.reset) := fun _ => ⟨fun _ => ⟨_, rfl⟩, nofun⟩

theorem ack (addr : Byte) (payload : List Byte) : Statement (.ack addr payload) := fun _ => ⟨nofun, fun _ => ⟨_, _, rfl⟩⟩

theorem formatSet (addr : Byte) (payload : List Byte) : Statement (.formatSet addr payload) := fun _ => ⟨nofun, fun _ => ⟨_, _, rfl⟩⟩

theorem imageData (addr : Byte) (payload : List Byte) : Statement (.imageData addr payload) := fun _ => ⟨nofun, fun _ => ⟨_, _, rfl⟩⟩

theorem writeRegister (addr : Byte) (payload : List Byte) : Statement (.writeRegister addr payload) := fun _ => ⟨nofun, fun _ => ⟨_, _, rfl⟩⟩

theorem readRegister (addr : Byte) (payload : List Byte) : Statement (.readRegister addr payload) := fun _ => ⟨nofun, fun _ => ⟨_, _, rfl⟩⟩

theorem unknown (addr : Byte) (cmd : Byte) (payload : List Byte) : Statement (.unknown addr cmd payload) := fun _ => ⟨nofun, fun _ => ⟨_, _, rfl⟩⟩

end Sys2Proof.Laws.Written
end

