-- ==== Sys2Proof/Laws/Sequences.lean ====
section
/-! SUPPORT. Sequences of operations (`runAll`), and what the producer's events and the loop of RX_PROCESS leave unchanged, said
once. -/

namespace Sys2Proof.Machine

/-- A sequence whose first part completes goes on from there. -/
theorem runAll_append {is js : List Instr} {s t : State} (h : runAll is s = .next t) : runAll (is ++ js) s = runAll js t := by
  induction is generalizing s with
  | nil =>
    simp only [runAll] at h
    injection h with h
    rw [List.nil_append, h]
  | cons i is ih =>
    simp only [List.cons_append, runAll] at h ⊢
    cases hi : exec i s with
    | next u => simp only [hi] at h ⊢; exact ih h
    | fault f => simp [hi] at h
    | refused r => simp [hi] at h

/-- Bytes from the producer, one RX_BYTE each. -/
theorem runAll_rxBytes (bs : List Byte) (s : State) :
    runAll (bs.map Instr.rxByte) s = .next (rxEvents s (bs.map RxEvent.byte)) := by
  induction bs generalizing s with
  | nil => rfl
  | cons b bs ih => simpa [runAll, exec, execRxByte, rxEvents, rxEvent] using ih (rxByte b s)

/-- `RX_FEED` (R77): the bytes, then the boundary. -/
theorem runAll_rxFeed (bs : List Byte) (s : State) :
    runAll (rxFeed bs) s = .next (rxBoundary (rxEvents s (bs.map RxEvent.byte))) := by
  rw [rxFeed, runAll_append (runAll_rxBytes bs s)]
  rfl

/-- A producer event changes the receive channel only (R10). -/
theorem rxEvent_frame (s : State) (e : RxEvent) : OnlyChannel s (rxEvent s e) := by
  cases e with
  | boundary => rfl
  | byte b => rcases rxByte_cases b s with ⟨-, h⟩ | ⟨-, h⟩ <;> simp only [rxEvent, h] <;> rfl

theorem OnlyChannel.trans {s t u : State} (h : OnlyChannel s t) (k : OnlyChannel t u) : OnlyChannel s u := by
  rw [OnlyChannel, k, h]

theorem rxEvents_frame (es : List RxEvent) (s : State) : OnlyChannel s (rxEvents s es) := by
  induction es generalizing s with
  | nil => rfl
  | cons e es ih => exact (rxEvent_frame s e).trans (ih _)

/-- An attempt to decode changes the channel's flags and count only (R170). -/
theorem afterDecode_frame (s : State) (f : FrameCheck) : OnlyChannel s (afterDecode s f) := by cases f <;> rfl

/-- The loop of RX_PROCESS changes the receive channel and what is left of the producer's plan only (R180). -/
theorem processLoop_frame (gs : List (List RxEvent)) (s : State) :
    ∃ t, OnlyChannel s t ∧ (processLoop gs s).state = { t with between := (processLoop gs s).state.between } := by
  induction gs generalizing s with
  | nil =>
    rcases rxDecode_cases s with ⟨-, h⟩ | ⟨-, h⟩
    · exact ⟨s, rfl, by simp [processLoop, h]⟩
    · exact ⟨_, afterDecode_frame s (checkBuffer s), by simp [processLoop, h]⟩
  | cons g gs ih =>
    rcases rxDecode_cases s with ⟨-, h⟩ | ⟨-, h⟩
    · exact ⟨s, rfl, by simp [processLoop, h]⟩
    · obtain ⟨t, ht, e⟩ := ih (rxEvents (afterDecode s (checkBuffer s)) g)
      exact ⟨t, ((afterDecode_frame s _).trans (rxEvents_frame g _)).trans ht, by simpa [processLoop, h] using e⟩

end Sys2Proof.Machine
end

