-- ==== Sys2Proof/Tests/Slice0.lean ====
section
/-! SUPPORT. Tests. Expected values are those of 95_test_vectors.md (V and P numbers), of the rules' own examples, or written out
from the tables of 30_encoding.md; and for every obligation with hypotheses a witness that meets them, clause by clause. -/

namespace Sys2Proof.Tests

open Sys2Proof Sys2Proof.Machine

/-! ### The example engine of 95_test_vectors.md -/

/-- The conventions of 95_test_vectors.md. -/
def conf (e : WireEndian) : Configuration :=
  { magic := ⟨0xA1, 0xB2, 0xC3, 0xD4⟩, endian := e, crcSeed := 0xFFFF, codes := .default, rxBufSize := 64, chunkMax := 64 }

/-- Parameters of the environment for tests. -/
def env : EnvConfig := { retryBudget := 2, failPolicy := .halt, negotiatePolicy := .once, readFailStatus := 0xE1 }

/-- The start state of every vector. -/
def start (e : WireEndian) : State := { State.afterReset (conf e) with envCfg := env }

/-- The state after operations; the start state where one does not complete. -/
def after (is : List Instr) (s : State) : State :=
  match runAll is s with
  | .next t => t
  | .fault _ | .refused _ => s

/-- The operations complete. -/
def completes (is : List Instr) (s : State) : Bool :=
  match runAll is s with
  | .next _ => true
  | .fault _ | .refused _ => false

/-- A big-endian engine, ready for an image of these samples. -/
def withSamples (e : WireEndian) (qs : List Half) : State := { start e with captureReady := true, pixels := qs }

/-- V4.3: a WriteRegister frame, big-endian. -/
def writeFrame : List Byte := [0xA1, 0xB2, 0xC3, 0xD4, 0x01, 0x00, 0x00, 0x00, 0x0E, 0x10, 0x12, 0x34, 0xDA, 0xD2]

/-- V4.1: an empty Ack frame, big-endian. -/
def ackFrame : List Byte := [0xA1, 0xB2, 0xC3, 0xD4, 0x01, 0x00, 0x00, 0x00, 0x0C, 0x00, 0x7E, 0xD7]

/-- V9.3: a frame of two payload bytes is open. -/
def opened : State := after [.txBegin 0x01 0x10 2] (start .be)

/-- V4.3 is buffered and announced. -/
def announced : State := after (rxFeed writeFrame) (start .be)

/-- These bytes are buffered and announced. -/
def fed (bs : List Byte) : State := after (rxFeed bs) (start .be)

/-- The byte sink does not return from a write that starts `k` bytes further on. -/
def hungAt (k : Nat) (s : State) : State := { s with sinkHangsAt := some (s.txOut.length + k) }

/-- The byte sink no longer returns. -/
def hung (s : State) : State := hungAt 0 s

/-! ### WellFormed: each check refuses an ill-formed term -/

theorem test_wf_accepts : wellFormed .default (.ack 0x01 [0x07]) = true ∧ wellFormed .default (.unknown 0x01 0x7F []) = true := by
  decide

theorem test_wf_refuses_assigned_unknown : wellFormed .default (.unknown 0x01 0x11 []) = false := by decide

theorem test_wf_refuses_long_payload (p : List Byte) (h : p.length = 4294967284) (addr : Byte) :
    wellFormed .default (.ack addr p) = false ∧ wellFormed .default (.formatSet addr p) = false
      ∧ wellFormed .default (.imageData addr p) = false ∧ wellFormed .default (.writeRegister addr p) = false
      ∧ wellFormed .default (.readRegister addr p) = false ∧ wellFormed .default (.unknown addr 0x7F p) = false := by
  simp [wellFormed, h, maxPayload]

/-- R6: `0x10` for both register commands. -/
theorem test_wf_refuses_equal_codes : ({ CommandCodes.default with readReg := 0x10 } : CommandCodes).distinct = false := by decide

/-! ### Decoding: words written out from R75, R76 and R64, one for each constructor, and the opcode table's words -/

theorem test_decode_crc :
    decodeOperation [0x40, 0xFF, 0xFE] = .ok (.crcLoad 0xFFFE) ∧ decodeOperation [0x41, 0x31] = .ok (.crcByte 0x31)
      ∧ decodeOperation [0x42, 0x31, 0x32] = .ok (.crcBlock [0x31, 0x32]) ∧ decodeOperation [0x43] = .ok .crcRead := by decide

theorem test_decode_tx :
    decodeOperation [0x50, 0x01, 0x02, 0xF3, 0xFF, 0xFF, 0xFF] = .ok (.txBegin 0x01 0x02 4294967283)
      ∧ decodeOperation [0x51, 0x11, 0x22] = .ok (.txChunk [0x11, 0x22]) ∧ decodeOperation [0x52] = .ok .txEnd
      ∧ decodeOperation [0x53, 0x01, 0x10, 0x12, 0x34] = .ok (.txFrame 0x01 0x10 [0x12, 0x34])
      ∧ decodeOperation [0x54, 0x01, 0x00, 0xBE, 0xEF, 0x34] = .ok (.txAck 0x01 0x00 0xBEEF 0x34)
      ∧ decodeOperation [0x55, 0x01, 0x04, 0x01, 0x40, 0x00, 0xF0] = .ok (.txFormatSet 0x01 4 320 240)
      ∧ decodeOperation [0x56, 0x01, 0x00, 0x02, 0x00, 0x03] = .ok (.txImage 0x01 2 3) := by decide

theorem test_decode_rx :
    decodeOperation [0x60, 0xA1] = .ok (.rxByte 0xA1) ∧ decodeOperation [0x61] = .ok .rxBoundary
      ∧ decodeOperation [0x62] = .ok .rxDecode ∧ decodeOperation [0x63] = .ok .rxProcess
      ∧ decodeOperation [0x7F] = .ok .reset := by decide

theorem test_decode_commands :
    decodeFrame .default 0x01 0x00 [] = .ack 0x01 [] ∧ decodeFrame .default 0x01 0x01 [4] = .formatSet 0x01 [4]
      ∧ decodeFrame .default 0x01 0x02 [1, 2] = .imageData 0x01 [1, 2]
      ∧ decodeFrame .default 0x01 0x10 [0x12, 0x34] = .writeRegister 0x01 [0x12, 0x34]
      ∧ decodeFrame .default 0x01 0x11 [0xBE, 0xEF, 0x12] = .readRegister 0x01 [0xBE, 0xEF, 0x12]
      ∧ decodeFrame .default 0x01 0x7F [0xAA] = .unknown 0x01 0x7F [0xAA]
      ∧ decodeFrame .default 0x01 0x03 [] = .unknown 0x01 0x03 [] := by decide

/-- R76: unassigned codes next to assigned ones; too few and too many operand bytes. -/
theorem test_decode_rejects :
    decodeOperation [0x44] = .error (.unassignedSelect 0x44) ∧ decodeOperation [0x7E] = .error (.unassignedSelect 0x7E)
      ∧ decodeOperation [] = .error .emptyRequest ∧ decodeOperation [0x40, 0xFF] = .error (.operandCount 0x40)
      ∧ decodeOperation [0x43, 0x00] = .error (.operandCount 0x43) := by decide

theorem test_table_words :
    decodeTableWord 8 0x40 = some (.crcLoad 0) ∧ decodeTableWord 8 0x56 = some (.txImage 0 0 0)
      ∧ decodeTableWord 8 0x7F = some .reset ∧ decodeTableWord 8 0x01 = some (.formatSet 0 [0, 0, 0, 0, 0])
      ∧ decodeTableWord 8 0x11 = some (.readRegister 0 [0, 0, 0]) ∧ decodeTableWord 8 0xFF = some (.unknown 0 0xFF []) := by
  decide

/-! ### The CRC unit -/

/-- V1.1, V1.2, V1.3, V1.10, V1.22. -/
theorem test_crc_vectors :
    crc16Update 0xFFFF [] = 0xFFFF ∧ crc16Update 0xFFFF [0x00] = 0x40BF ∧ crc16Update 0xFFFF [0x01] = 0x807E
      ∧ crc16Update 0xFFFF [0x31, 0x32, 0x33, 0x34, 0x35, 0x36, 0x37, 0x38, 0x39] = 0x4B37
      ∧ crc16Update 0x0000 [0x31, 0x32, 0x33, 0x34, 0x35, 0x36, 0x37, 0x38, 0x39] = 0xBB3D := by decide +kernel

/-- R94's and R95's examples. -/
theorem test_crc_load_byte :
    (after [.crcLoad 0xFFFF] (start .be)).crcAcc = 0xFFFF ∧ (after [.crcLoad 0xFFFF, .crcByte 0x31] (start .be)).crcAcc = 0x947E := by
  decide +kernel

/-- R96's example; R97 after it. -/
theorem test_crc_block_read :
    (after [.crcLoad 0xFFFF, .crcBlock [0x31, 0x32, 0x33, 0x34], .crcRead] (start .be)).result = some (.value 0x30BA) := by
  decide +kernel

/-- V9.20 to V9.22. -/
theorem test_crc_not_loaded :
    (after [.crcRead] (start .be)).result = some (.refused .crcNotLoaded)
      ∧ (after [.crcByte 0x31] (start .be)).result = some (.refused .crcNotLoaded)
      ∧ (after [.crcBlock [0x31, 0x32]] (start .be)).crcValid = false := by decide +kernel

/-! ### The encoder -/

/-- V3.2, V3.6: both byte orders. -/
theorem test_fields :
    enc32 .be 0x01020304 = [1, 2, 3, 4] ∧ enc32 .le 0x01020304 = [4, 3, 2, 1] ∧ enc16 .le 0xBEEF = [0xEF, 0xBE]
      ∧ dec32 .le 0x00 0x00 0x00 0x0E = 234881024 := by decide

/-- R113's example, both byte orders. -/
theorem test_tx_begin :
    (after [.txBegin 0x01 0x02 8] (start .be)).txCrc = 0xBF5C
      ∧ (after [.txBegin 0x01 0x02 8] (start .le)).txOut = [0xA1, 0xB2, 0xC3, 0xD4, 0x01, 0x14, 0x00, 0x00, 0x00, 0x02] := by
  decide +kernel

/-- V4.22. -/
theorem test_tx_begin_limit :
    (after [.txBegin 0x01 0x02 4294967283] (start .be)).txCrc = 0x7F06
      ∧ (after [.txBegin 0x01 0x02 4294967284] (start .be)).result = some (.refused .txLengthOverflow) := by decide +kernel

/-- V9.7, V9.8. -/
theorem test_tx_chunk :
    (after [.txChunk [0x12, 0x34, 0x56]] opened).result = some (.refused .txOverrun)
      ∧ (after [.txChunk [0x12]] opened).txCrc = 0x5312 := by decide +kernel

/-- V9.9, V9.13. -/
theorem test_tx_end :
    (after [.txChunk [0x12], .txEnd] opened).result = some (.refused .txUnderrun)
      ∧ (after [.txChunk [0x12], .txChunk [0x34], .txEnd] opened).txOut = writeFrame := by decide +kernel

/-- V4.3; V9.5. -/
theorem test_tx_frame :
    (after [.txFrame 0x01 0x10 [0x12, 0x34]] (start .be)).txOut = writeFrame
      ∧ (after [.txFrame 0x01 0x00 []] opened).result = some (.refused .txBusy) := by decide +kernel

/-- V4.7, V4.8. -/
theorem test_tx_ack :
    (after [.txAck 0x01 0x00 0xBEEF 0x34] (start .be)).txOut
        = [0xA1, 0xB2, 0xC3, 0xD4, 0x01, 0x00, 0x00, 0x00, 0x10, 0x00, 0x00, 0xBE, 0xEF, 0x34, 0x33, 0x76]
      ∧ (after [.txAck 0x01 0x00 0xBEEF 0x34] (start .le)).txOut
        = [0xA1, 0xB2, 0xC3, 0xD4, 0x01, 0x10, 0x00, 0x00, 0x00, 0x00, 0x00, 0xEF, 0xBE, 0x34, 0xD5, 0x22] := by decide +kernel

/-- V4.9, V4.10. -/
theorem test_tx_formatset :
    (after [.txFormatSet 0x01 4 320 240] (start .be)).txOut
        = [0xA1, 0xB2, 0xC3, 0xD4, 0x01, 0x00, 0x00, 0x00, 0x11, 0x01, 0x04, 0x01, 0x40, 0x00, 0xF0, 0x46, 0x51]
      ∧ (after [.txFormatSet 0x01 4 320 240] (start .le)).txOut
        = [0xA1, 0xB2, 0xC3, 0xD4, 0x01, 0x11, 0x00, 0x00, 0x00, 0x01, 0x04, 0x40, 0x01, 0xF0, 0x00, 0x00, 0x7B] := by
  decide +kernel

/-- V5.3. -/
theorem test_tx_image :
    (after [.txImage 0x01 2 2] (withSamples .le [0x1234, 0xABCD, 0x00FF, 0xF800])).txOut
      = [0xA1, 0xB2, 0xC3, 0xD4, 0x01, 0x14, 0x00, 0x00, 0x00, 0x02, 0x34, 0x12, 0xCD, 0xAB, 0xFF, 0x00, 0x00, 0xF8, 0x0F, 0x43] := by
  decide +kernel

/-- V5.6 (no sample consumed), V5.11 (length before chunk size). -/
theorem test_tx_image_corners :
    (after [.txImage 0x02 3 0] (withSamples .be [0x1234])).txOut
        = [0xA1, 0xB2, 0xC3, 0xD4, 0x02, 0x00, 0x00, 0x00, 0x0C, 0x02, 0x8C, 0x56]
      ∧ (after [.txImage 0x02 3 0] (withSamples .be [0x1234])).pixels = [0x1234]
      ∧ (after [.txImage 0x01 46341 46341] (withSamples .be [])).result = some (.refused .txLengthOverflow) := by decide +kernel

/-! ### The receive side -/

/-- V8.2: the fifteenth byte is dropped, and the frame cannot pass. -/
theorem test_rx_byte_overflow :
    let s := { start .be with cfg := { conf .be with rxBufSize := 14 } }
    let t := after (writeFrame.map Instr.rxByte ++ [.rxByte 0x00]) s
    t.rxCount = 14 ∧ t.rxOvf = true ∧ (after [.rxBoundary, .rxProcess] t).result = some (.outcomes [.lengthMismatch]) := by
  decide +kernel

/-- V8.6: the flag does not count. -/
theorem test_rx_boundary :
    (after [.rxBoundary] announced).rxReady = true
      ∧ (after [.rxBoundary, .rxDecode, .rxDecode] announced).result = some (.decoded .noFrame) := by decide +kernel

/-- V6.7 (big-endian): the samples in order. -/
theorem test_rx_decode_image :
    (after [.rxDecode] (fed [0xA1, 0xB2, 0xC3, 0xD4, 0x01, 0x00, 0x00, 0x00, 0x14, 0x02, 0x12, 0x34, 0xAB, 0xCD, 0x00, 0xFF, 0xF8,
        0x00, 0x4F, 0xF9])).result
      = some (.decoded (.dispatched
          (.imageData 0x01 [0x12, 0x34, 0xAB, 0xCD, 0x00, 0xFF, 0xF8, 0x00] [0x1234, 0xABCD, 0x00FF, 0xF800]))) := by
  decide +kernel

/-- V7.1, V7.3, V7.4, V7.9. -/
theorem test_rx_decode_signals :
    (after [.rxDecode] (fed [0xA1, 0xB2, 0xC3, 0xD4, 0x01, 0x00, 0x00, 0x00, 0x0E, 0x10, 0x13, 0x34, 0xDA, 0xD2])).result
        = some (.decoded .checksumMismatch)
      ∧ (after [.rxDecode] (fed [0xA1, 0xB2, 0xC3, 0xD5, 0x01, 0x00, 0x00, 0x00, 0x0E, 0x10, 0x12, 0x34, 0x4A, 0xDF])).result
        = some (.decoded .badMagic)
      ∧ (after [.rxDecode] (fed [0xA1, 0xB2, 0xC3, 0xD4, 0x01, 0x00, 0x00, 0x00, 0x0E])).rxCount = 9
      ∧ (after [.rxDecode] (fed [0xA1, 0xB2, 0xC3, 0xD4, 0x01, 0x00, 0x00, 0x00, 0x0A, 0x00])).result
        = some (.decoded .lengthMismatch) := by decide +kernel

/-- V8.1; the frame is the consumer's next turn. -/
theorem test_rx_process :
    (after [.rxProcess] announced).result = some (.outcomes [.dispatched (.writeRegister 0x01 0x12 0x34)])
      ∧ (after [.rxProcess] announced).agenda = [.request (.frame 0x01 0x10 [0x12, 0x34])] := by decide +kernel

/-- V10.2, V10.3. -/
theorem test_reset :
    (after [.reset, .txFrame 0x01 0x00 []] opened).txOut = [0xA1, 0xB2, 0xC3, 0xD4, 0x01, 0x00, 0x00, 0x00, 0x0E, 0x10] ++ ackFrame
      ∧ (after [.crcLoad 0xFFFF, .reset, .crcRead] (start .be)).result = some (.refused .crcNotLoaded) := by decide +kernel

/-! ### Wire commands -/

/-- P4, step 4: `write_register(0x12, 0x34)` once, nothing transmitted. -/
theorem test_write_register :
    (after [.writeRegister 0x01 [0x12, 0x34]] (start .be)).regWrites = [(0x12, 0x34)]
      ∧ (after [.writeRegister 0x01 [0x12, 0x34]] (start .be)).txOut = [] := by decide +kernel

/-- R173's example; a handshake that waits takes the Ack. -/
theorem test_ack :
    (after [.ack 0x01 [0x00, 0xBE, 0xEF, 0x34]] (start .be)).consumed = [.ack 0x01 [0x00, 0xBE, 0xEF, 0x34] (some ⟨0, 0xBEEF, 0x34⟩)]
      ∧ (after [.ack 0x01 []] { start .be with waiting := true }).handshake = .streaming := by decide +kernel

/-- R174's example; V6.20. -/
theorem test_formatset :
    (after [.formatSet 0x01 [0x04, 0x01, 0x40, 0x00, 0xF0]] (start .be)).consumed = [.formatSet 0x01 4 320 240]
      ∧ (after [.formatSet 0x01 [0, 0, 0, 0]] (start .be)).consumed = [.unknown 0x01 0x01] := by decide +kernel

/-- V6.22, V6.8. -/
theorem test_imagedata :
    (after [.imageData 0x01 [0x11]] (start .be)).consumed = [.unknown 0x01 0x02]
      ∧ (after [.imageData 0x02 []] (start .be)).consumed = [.imageData 0x02 [] []] := by decide +kernel

/-- R181's example. -/
theorem test_unknown : (after [.unknown 0x01 0x7F [0xAA]] (start .be)).consumed = [.unknown 0x01 0x7F] := by decide +kernel

/-- R179's example. With a frame open the reply cannot be sent (R113). -/
theorem test_read_register :
    (after [.readRegister 0x01 [0xBE, 0xEF, 0x12]] opened).consumed = [.readRegister 0x01 0xBEEF 0x12]
      ∧ (after [.readRegister 0x01 [0xBE, 0xEF, 0x12]] opened).result = some (.refused .txBusy) := by decide +kernel

/-- R206, R207: the reply's status and value for each answer. -/
theorem test_read_reply :
    replyStatus env (some 0x34) = 0x00 ∧ replyValue (some 0x34) = 0x34 ∧ replyStatus env none = 0xE1 ∧ replyValue none = 0x00 := by
  decide

/-- P8: no acknowledgement arrives. -/
theorem test_negotiate_times_out :
    (negotiate 0x01 4 320 240 (start .be)).result = some .handshakeTimeout ∧ (negotiate 0x01 4 320 240 (start .be)).polls = 2 := by
  decide +kernel

/-! ### The step -/

/-- The next state of an outcome. -/
def nextOf : Host.Outcome State Fault Refusal → Option State
  | .next t => some t
  | .fault _ | .refused _ => none

/-- The fault of an outcome. -/
def faultOf : Host.Outcome State Fault Refusal → Option Fault
  | .fault f => some f
  | .next _ | .refused _ => none

/-- The refusal of an outcome. -/
def refusalOf : Host.Outcome State Fault Refusal → Option Refusal
  | .refused r => some r
  | .next _ | .fault _ => none

/-- A state with one request waiting. -/
def asked (bytes : List Byte) (s : State) : State := { s with agenda := [.request (.operation bytes)] }

/-- A frame handed over is serviced by the step after RX_PROCESS (P4); a select code that is not assigned is refused (R76). -/
theorem test_step :
    ((nextOf (step (asked [0x63] announced))).bind fun t => (nextOf (step t)).map State.regWrites) = some [(0x12, 0x34)]
      ∧ refusalOf (step (asked [0x44] (start .be))) = some (.undecodable (.unassignedSelect 0x44)) := by decide +kernel

/-! ### Witnesses: for each obligation with hypotheses, states and operands that meet them, clause by clause, at the
boundaries -/

theorem witness_StepRunsDecodedRequest :
    (asked [0x43] (start .be)).agenda = [.request (.operation [0x43])]
      ∧ decode (start .be).cfg.codes (.operation [0x43]) = .ok .crcRead ∧ (asked [0x43] (start .be)).controller = .ready
      ∧ ({ start .be with agenda := [.negotiate 1 4 2 2] } : State).agenda = [.negotiate 1 4 2 2]
      ∧ (hungAt 9 (start .be)).sinkHangsAt = some 9 ∧ (start .be).sinkHangsAt = none
      ∧ (nextOf (step { hungAt 9 (start .be) with agenda := [.environment (.sinkHangs 12)] })).map State.sinkHangsAt = some (some 9)
      ∧ (nextOf (step { start .be with agenda := [.environment (.sinkHangs 12)] })).map State.sinkHangsAt = some (some 12) := by
  decide +kernel

theorem witness_StepStopsByName :
    (start .be).agenda = [] ∧ decode (start .be).cfg.codes (.operation []) = .error .emptyRequest
      ∧ (asked [] (start .be)).agenda = [.request (.operation [])]
      ∧ decode (start .be).cfg.codes (.operation [0x52]) = .ok .txEnd ∧ Instr.txEnd.issuer = .controller
      ∧ faultOf (step (asked [0x52] { start .be with controller := .waitingForPixels })) = some .pixelSourceShort
      ∧ faultOf (step (asked [0x52] { start .be with controller := .waitingForSink })) = some .sinkNeverReturns
      ∧ ({ start .be with controller := .waitingForSink, agenda := [.writeImage 1 4 2 2] } : State).agenda = [.writeImage 1 4 2 2] := by
  decide +kernel

theorem witness_SelectCodes :
    decodeOperation [0x7F] = .ok .reset
      ∧ (0x44 : Byte) ∉ ([0x40, 0x41, 0x42, 0x43, 0x50, 0x51, 0x52, 0x53, 0x54, 0x55, 0x56, 0x60, 0x61, 0x62, 0x63, 0x7F] : List Byte)
      ∧ (0x80 : Byte) ∉ ([0x40, 0x41, 0x42, 0x43, 0x50, 0x51, 0x52, 0x53, 0x54, 0x55, 0x56, 0x60, 0x61, 0x62, 0x63, 0x7F] : List Byte)
      ∧ (asked [0x44] (start .be)).agenda = [.request (.operation [0x44])] := by decide +kernel

theorem witness_DecodeEncode :
    CommandCodes.default.distinct = true ∧ wellFormed .default (.txBegin 0xFF 0xFF 4294967283) = true
      ∧ wellFormed .default (.unknown 0x01 0x12 [0xAA]) = true := by decide

/-- There are byte sequences of every length. -/
theorem some_bytes (n : Nat) : ∃ p : List Byte, p.length = n := ⟨List.replicate n 0, List.length_replicate⟩

theorem witness_DecodeEncode_longest :
    ∃ p : List Byte, p.length = 4294967283 ∧ wellFormed .default (.imageData 0x01 p) = true := by
  obtain ⟨p, hp⟩ := some_bytes 4294967283
  exact ⟨p, hp, by simp [wellFormed, maxPayload, hp]⟩

theorem witness_DecodedRequestReencodes :
    decodeOperation [0x53, 0x01, 0x02] = .ok (.txFrame 0x01 0x02 [])
      ∧ ∀ addr cmd plen, Instr.txFrame 0x01 0x02 [] ≠ .txBegin addr cmd plen :=
  ⟨by decide, fun _ _ _ => by simp⟩

theorem witness_FrameLayout :
    ([] : List Byte).length ≤ 4294967283 ∧ ∃ p : List Byte, p.length = 4294967283 :=
  ⟨by decide, some_bytes 4294967283⟩

theorem witness_CrcPortResults :
    (start .be).crcValid = false ∧ (after [.crcLoad 0] (start .be)).crcValid = true := by decide +kernel

theorem witness_CrcBlockResult :
    (start .be).crcValid = false ∧ (after [.crcLoad 0] (start .be)).crcValid = true ∧ ([[]] : List (List Byte)) ≠ [] := by
  decide +kernel

theorem witness_CrcAlgebra : ([0x12, 0x34] : List Byte).length = ([0xAB, 0xCD] : List Byte).length := by decide

theorem witness_CrcDetectsOneBit : 0 < 8 * ([0x00] : List Byte).length ∧ 7 < 8 * ([0x00] : List Byte).length := by decide

theorem witness_TxBeginResult :
    opened.txState = .payload ∧ (start .be).txState = .idle ∧ 2 ^ 32 - 1 < 10 + 4294967284 + 2
      ∧ 10 + 4294967283 + 2 ≤ 2 ^ 32 - 1 ∧ (start .be).sinkReturnsAt 0 = true := by decide +kernel

theorem witness_TxChunkResult :
    (start .be).txState = .idle ∧ opened.txState = .payload ∧ opened.txRemain.toNat < ([1, 2, 3] : List Byte).length
      ∧ ([1, 2] : List Byte).length ≤ opened.txRemain.toNat ∧ opened.sinkReturnsAt 0 = true
      ∧ (hung opened).txState = .payload ∧ ([] : List Byte).length ≤ (hung opened).txRemain.toNat := by decide +kernel

theorem witness_TxEndResult :
    (start .be).txState = .idle ∧ opened.txState = .payload ∧ opened.txRemain ≠ 0
      ∧ (after [.txChunk [0x12, 0x34]] opened).txState = .payload ∧ (after [.txChunk [0x12, 0x34]] opened).txRemain = 0
      ∧ (after [.txChunk [0x12, 0x34]] opened).sinkReturnsAt 0 = true := by decide +kernel

/-- The longest payload that is sent, and the shortest that is too long. -/
theorem witness_TxFrameResult :
    opened.txState = .payload ∧ CanSend (start .be) ([] : List Byte).length
      ∧ (∃ p : List Byte, p.length = 4294967283 ∧ CanSend (start .be) p.length)
      ∧ ∃ p : List Byte, (start .be).txState = .idle ∧ 2 ^ 32 - 1 < 10 + p.length + 2 := by
  obtain ⟨p, hp⟩ := some_bytes 4294967283
  obtain ⟨q, hq⟩ := some_bytes 4294967284
  refine ⟨by decide +kernel, ?_, ⟨p, hp, ?_⟩, q, by decide +kernel, by omega⟩
  · unfold CanSend
    decide +kernel
  · rw [hp]
    unfold CanSend
    decide +kernel

theorem witness_TxAckFormatSetResult :
    opened.txState = .payload ∧ CanSend (start .be) 4 ∧ CanSend (start .be) 5 ∧ CanSend (hungAt 16 (start .be)) 5 := by
  unfold CanSend
  decide +kernel

theorem witness_PiecesDoNotShow :
    CanSend (start .be) ([] : List (List Byte)).flatten.length ∧ CanSend (start .le) ([[0x12], [], [0x34]] : List (List Byte)).flatten.length := by
  unfold CanSend
  decide +kernel

theorem witness_HungSinkStopsTheController :
    (hung (start .be)).sinkReturnsAt 0 = false ∧ (hung (start .be)).txState = .idle ∧ frameLength ([] : List Byte).length ≤ maxLength
      ∧ (hung (withSamples .be [])).txState = .idle ∧ (hung (withSamples .be [])).captureReady = true
      ∧ frameLength ((1 : Half).toNat * (32 : Half).toNat * 2) ≤ maxLength
      ∧ 2 * (32 : Half).toNat ≤ (hung (withSamples .be [])).cfg.chunkMax
      ∧ (hung opened).sinkReturnsAt 0 = false ∧ (hung opened).txState = .payload ∧ ([0x12, 0x34] : List Byte) ≠ []
      ∧ ([0x12, 0x34] : List Byte).length ≤ (hung opened).txRemain.toNat
      ∧ (hung (after [.txChunk [0x12, 0x34]] opened)).txState = .payload
      ∧ (hung (after [.txChunk [0x12, 0x34]] opened)).txRemain = 0 := by decide +kernel

/-- A frame of two payload bytes: the sink hangs in the payload's write (1 or 10 bytes on), in the checksum's (11 or 12 bytes
on); an empty frame's checksum (10 bytes on). -/
theorem witness_HungSinkStopsTheController_frame :
    (∀ k ∈ [1, 10], (hungAt k (start .be)).sinkReturnsAt 0 = true ∧ (hungAt k (start .be)).sinkReturnsAt 10 = false)
      ∧ (∀ k ∈ [11, 12], (hungAt k (start .be)).sinkReturnsAt 10 = true
          ∧ (hungAt k (start .be)).sinkReturnsAt (10 + ([0x12, 0x34] : List Byte).length) = false)
      ∧ (hungAt 10 (start .be)).sinkReturnsAt 0 = true
      ∧ (hungAt 10 (start .be)).sinkReturnsAt (10 + ([] : List Byte).length) = false := by decide +kernel

/-- Two chunks of two samples: the sink hangs in the second chunk, and in the checksum. -/
theorem witness_HungSinkStopsTheController_image :
    ∀ k ∈ [1, 2],
      let s := hungAt (10 + 4 * k) (withSamples .be [1, 2, 3, 4])
      s.txState = .idle ∧ s.captureReady = true ∧ frameLength ((2 : Half).toNat * (2 : Half).toNat * 2) ≤ maxLength
        ∧ 2 * (2 : Half).toNat ≤ s.cfg.chunkMax ∧ s.chunkBuf.wf = true ∧ k ≤ (2 : Half).toNat ∧ 0 < (2 : Half).toNat
        ∧ min (k + 1) (2 : Half).toNat * (2 : Half).toNat ≤ s.pixels.length
        ∧ (s.sinkReturnsAt 0 = true ∧ ∀ j, j < k → s.sinkReturnsAt (10 + 2 * (2 : Half).toNat * j) = true)
        ∧ s.sinkReturnsAt (10 + 2 * (2 : Half).toNat * k) = false := by decide +kernel

/-- V4.21's payload: the header is out and the frame open where the sink hangs in the checksum. -/
theorem test_tx_frame_hangs :
    (after [.txFrame 0x01 0x10 [0x12, 0x34]] (hungAt 12 (start .be))).txOut = writeFrame.take 12
      ∧ (after [.txFrame 0x01 0x10 [0x12, 0x34]] (hungAt 12 (start .be))).txState = .payload
      ∧ (after [.txFrame 0x01 0x10 [0x12, 0x34]] (hungAt 12 (start .be))).controller = .waitingForSink
      ∧ (after [.txFrame 0x01 0x10 [0x12, 0x34]] (hungAt 13 (start .be))).txOut = writeFrame := by decide +kernel

/-- R147's boundaries: 65535 by 32769 is too long, 65535 by 32768 is not; 2 * 33 bytes do not fit 64, 2 * 32 do. -/
theorem witness_TxImageTurnedAway :
    (start .be).captureReady = false ∧ (withSamples .be []).captureReady = true ∧ (withSamples .be []).txState = .idle
      ∧ ({ opened with captureReady := true } : State).txState = .payload
      ∧ 2147483641 < (65535 : Half).toNat * (32769 : Half).toNat ∧ (65535 : Half).toNat * (32768 : Half).toNat ≤ 2147483641
      ∧ (withSamples .be []).cfg.chunkMax < 2 * (33 : Half).toNat := by decide +kernel

theorem witness_TxImageSendsTheImage :
    let s := withSamples .be (List.replicate 64 0x1234)
    s.captureReady = true ∧ CanSend s ((2 : Half).toNat * (32 : Half).toNat * 2) ∧ 2 * (32 : Half).toNat ≤ s.cfg.chunkMax
      ∧ (2 : Half).toNat * (32 : Half).toNat ≤ s.pixels.length ∧ s.chunkBuf.wf = true ∧ 0 < (2 : Half).toNat := by
  unfold CanSend
  decide +kernel

theorem witness_ConsumedSignalOnlyAfterTheFrame :
    completes [.txImage 0x01 0 0] (withSamples .be []) = true
      ∧ (after [.txImage 0x01 0 0] (withSamples .be [])).result = some .ok
      ∧ completes [.txImage 0x01 0 0] (start .be) = true ∧ (after [.txImage 0x01 0 0] (start .be)).result = some .notReady := by
  decide +kernel

/-- Three samples for two chunks of two: short after one whole chunk. -/
theorem witness_ShortPixelSourceLeavesTheFrameOpen :
    let s := withSamples .be [1, 2, 3]
    s.captureReady = true ∧ s.txState = .idle ∧ frameLength ((2 : Half).toNat * (2 : Half).toNat * 2) ≤ maxLength
      ∧ (s.sinkReturnsAt 0 = true ∧ ∀ j, j < 1 → s.sinkReturnsAt (10 + 2 * (2 : Half).toNat * j) = true)
      ∧ 2 * (2 : Half).toNat ≤ s.cfg.chunkMax ∧ s.chunkBuf.wf = true ∧ 1 < (2 : Half).toNat ∧ 1 * (2 : Half).toNat ≤ s.pixels.length
      ∧ s.pixels.length < (1 + 1) * (2 : Half).toNat
      ∧ decode s.cfg.codes (.operation [0x52]) = .ok .txEnd ∧ Instr.txEnd.issuer = .controller ∧ configValid s.cfgIn = true := by
  decide +kernel

theorem witness_ProducerEventResults :
    (start .be).rxBuf.wf = true ∧ ({ start .be with rxCount := 63 } : State).rxCount < (start .be).cfg.rxBufSize.val
      ∧ (start .be).cfg.rxBufSize.val ≤ ({ start .be with rxCount := 64 } : State).rxCount := by decide +kernel

theorem witness_RxDecodeFlagAndSize :
    (start .be).rxReady = false ∧ announced.rxReady = true
      ∧ (fed [0xA1, 0xB2, 0xC3, 0xD4, 0x01, 0x00, 0x00, 0x00, 0x0E]).rxReady = true
      ∧ (fed [0xA1, 0xB2, 0xC3, 0xD4, 0x01, 0x00, 0x00, 0x00, 0x0E]).rxCount < 10 := by decide +kernel

/-- Ten bytes, the last byte of the magic wrong. -/
theorem witness_RxDecodeBadMagic :
    let s := fed [0xA1, 0xB2, 0xC3, 0xD5, 0x01, 0x00, 0x00, 0x00, 0x0A, 0x10]
    s.rxReady = true ∧ 10 ≤ s.rxCount ∧ ¬ MagicHolds s := by
  unfold MagicHolds
  decide +kernel

/-- V7.7 (one byte short), V7.10 (declared 11), V8.2 (overflow). -/
theorem witness_RxDecodeLengthMismatch :
    let s := fed [0xA1, 0xB2, 0xC3, 0xD4, 0x01, 0x00, 0x00, 0x00, 0x0E, 0x10, 0x12, 0x34, 0xDA]
    let t := fed [0xA1, 0xB2, 0xC3, 0xD4, 0x01, 0x00, 0x00, 0x00, 0x0B, 0x00, 0x00]
    let u := { announced with rxOvf := true }
    (s.rxReady = true ∧ 10 ≤ s.rxCount ∧ MagicHolds s ∧ lengthField s ≠ s.rxCount)
      ∧ (t.rxReady = true ∧ 10 ≤ t.rxCount ∧ MagicHolds t ∧ lengthField t < 12)
      ∧ (u.rxReady = true ∧ 10 ≤ u.rxCount ∧ MagicHolds u ∧ u.rxOvf = true) := by
  unfold MagicHolds
  decide +kernel

/-- The shortest frame with a wrong checksum. -/
theorem witness_RxDecodeChecksumMismatch :
    let s := fed [0xA1, 0xB2, 0xC3, 0xD4, 0x01, 0x00, 0x00, 0x00, 0x0C, 0x00, 0x7E, 0xD6]
    s.rxReady = true ∧ MagicHolds s ∧ LengthHolds s ∧ ¬ ChecksumHolds s := by
  unfold MagicHolds LengthHolds ChecksumHolds
  decide +kernel

theorem witness_RxDecodeAccepts :
    let s := fed ackFrame
    s.rxReady = true ∧ MagicHolds s ∧ LengthHolds s ∧ ChecksumHolds s := by
  unfold MagicHolds LengthHolds ChecksumHolds
  decide +kernel

/-- The default codes; payload sizes on both sides of each command's. -/
theorem witness_DispatchByCommand :
    (conf .be).codes.distinct = true ∧ ([1, 2, 3, 4] : List Byte).length ≠ 5 ∧ ([1, 2, 3] : List Byte).length ≠ 4
      ∧ ([1, 2] : List Byte).length % 2 = 0 ∧ ([1, 2, 3] : List Byte).length % 2 = 1 ∧ ([1] : List Byte).length ≠ 2
      ∧ ([1, 2] : List Byte).length ≠ 3 ∧ (0x12 : Byte) ≠ (conf .be).codes.readReg ∧ (0x12 : Byte) ≠ (conf .be).codes.ack
      ∧ (0x12 : Byte) ≠ (conf .be).codes.formatSet ∧ (0x12 : Byte) ≠ (conf .be).codes.imageData
      ∧ (0x12 : Byte) ≠ (conf .be).codes.writeReg := by decide

theorem witness_RxProcessQuietProducer :
    (start .be).between = [] ∧ (start .be).rxReady = false ∧ announced.between = [] ∧ announced.rxReady = true := by
  decide +kernel

theorem witness_RxProcessEnds :
    (start .be).rxReady = false ∧ ({ announced with between := [[.boundary], []] } : State).rxReady = true
      ∧ ({ announced with between := [[.boundary], []] } : State).between = [.boundary] :: [[]] := by decide +kernel

/-- R180: an error outcome does not end the loop: a short sequence, then in the first gap the boundary of nothing more. -/
theorem test_rx_process_gaps :
    (after [.rxProcess] { fed [0x55] with between := [[.boundary], []] }).result
      = some (.outcomes [.incompleteFrame, .incompleteFrame]) := by decide +kernel

/-- Payloads of 52 bytes: the longest frame 64 bytes hold. -/
theorem witness_LateByteLosesTheFrame :
    (start .be).rxBuf.wf = true ∧ (start .be).rxCount = 0
      ∧ frameLength (List.replicate 52 (0 : Byte)).length ≤ (start .be).cfg.rxBufSize.val := by decide +kernel

theorem witness_EncodedFrameIsDispatched :
    (start .be).rxBuf.wf = true ∧ (start .be).rxCount = 0 ∧ (start .be).rxOvf = false
      ∧ frameLength (List.replicate 52 (0 : Byte)).length ≤ (start .be).cfg.rxBufSize.val
      ∧ frameLength ([] : List Byte).length ≤ (start .be).cfg.rxBufSize.val := by decide +kernel

/-- Bits at both ends of each range. -/
theorem witness_OneBitErrorIsRejected :
    (start .be).rxBuf.wf = true ∧ (start .be).rxCount = 0 ∧ (start .be).rxOvf = false
      ∧ frameLength ([] : List Byte).length ≤ (start .be).cfg.rxBufSize.val
      ∧ ∀ k ∈ [0, 31, 32, 39, 40, 71, 72, 95], k < 8 * frameLength ([] : List Byte).length := by decide +kernel

theorem witness_PayloadFieldsRoundTrip : (conf .le).codes.distinct = true := by decide

theorem witness_wireCommands :
    ([0, 1, 2, 3] : List Byte) = [0, 1, 2, 3] ∧ ([] : List Byte).length ≠ 4 ∧ ([4, 1, 64, 0, 240] : List Byte).length = 5
      ∧ ([4, 1, 64, 0] : List Byte).length ≠ 5 ∧ ([] : List Byte).length % 2 = 0 ∧ ([1] : List Byte).length % 2 = 1
      ∧ ([1] : List Byte).length ≠ 2 ∧ ([1, 2, 3, 4] : List Byte).length ≠ 3 := by decide

theorem witness_ReadRegisterCommand :
    CanSend (start .be) 4 ∧ opened.txState = .payload
      ∧ (hung (start .be)).txState = .idle ∧ (hung (start .be)).sinkReturnsAt 0 = false := by
  unfold CanSend
  decide +kernel

theorem witness_NegotiateTimesOut :
    CanSend (start .be) 5 ∧ (start .be).controller = .ready ∧ (start .be).rxReady = false ∧ (start .be).between = [] := by
  unfold CanSend
  decide +kernel

theorem witness_NegotiateTakesTheAck :
    CanSend (start .be) 5 ∧ (start .be).controller = .ready ∧ (start .be).between = [] ∧ 0 < (start .be).envCfg.retryBudget ∧ (start .be).cfg.codes.distinct = true ∧ (start .be).rxBuf.wf = true
      ∧ (start .be).rxCount = 0 ∧ (start .be).rxOvf = false
      ∧ frameLength ([0x00, 0x00, 0x01, 0x00] : List Byte).length ≤ (start .be).cfg.rxBufSize.val := by
  unfold CanSend
  decide +kernel

/-- The example engine, with these policies, asked for images of one sample. -/
def imaging (f : FailPolicy) (p : NegotiatePolicy) : State :=
  { withSamples .be [0x1234] with envCfg := { env with failPolicy := f, negotiatePolicy := p } }

/-- Both failure policies after a timeout; Ok from an Ack announced before; a hung sink; both negotiation policies. -/
theorem witness_WriteImageAfterTimeout :
    ((imaging .halt .once).handshake = .needsFormatAck ∧ (imaging .halt .once).envCfg.failPolicy = .halt
        ∧ (negotiate 1 4 1 1 (imaging .halt .once)).controller = .ready
        ∧ (negotiate 1 4 1 1 (imaging .halt .once)).result = some .handshakeTimeout)
      ∧ ((imaging .proceed .everyFrame).envCfg.failPolicy = .proceed
        ∧ (imaging .proceed .everyFrame).envCfg.negotiatePolicy = .everyFrame
        ∧ (negotiate 1 4 1 1 (imaging .proceed .everyFrame)).result = some .handshakeTimeout
        ∧ (writeImage 1 4 1 1 (imaging .proceed .everyFrame)).controller = .ready)
      ∧ ((negotiate 1 4 1 1 (after (rxFeed ackFrame) (imaging .halt .once))).controller = .ready
        ∧ (negotiate 1 4 1 1 (after (rxFeed ackFrame) (imaging .halt .once))).result = some .ok)
      ∧ (negotiate 1 4 1 1 (hung (imaging .halt .once))).controller = .waitingForSink
      ∧ ({ imaging .halt .once with handshake := .streaming } : State).handshake = .streaming
      ∧ (txImage 1 1 1 (imaging .halt .once)).controller = .ready
      ∧ (txImage 1 1 1 (hung (imaging .halt .once))).controller = .waitingForSink := by decide +kernel

/-- R213: under EveryFrame the state returns to NeedsFormatAck after the image, under Once it stays Streaming. -/
theorem test_write_image_policies :
    (writeImage 1 4 1 1 { imaging .halt .everyFrame with handshake := .streaming }).handshake = .needsFormatAck
      ∧ (writeImage 1 4 1 1 (after (rxFeed ackFrame) (imaging .halt .once))).handshake = .streaming
      ∧ (writeImage 1 4 1 1 (after (rxFeed ackFrame) (imaging .halt .once))).consumedSignals = 1
      ∧ (writeImage 1 4 1 1 (imaging .halt .once)).consumedSignals = 0 := by decide +kernel

/-- The least sizes a configuration may have. -/
theorem witness_ResetResult :
    configValid { conf .be with rxBufSize := 12, chunkMax := 1 } = true ∧ configValid (start .be).cfgIn = true := by decide

theorem witness_InvalidConfigurationIsRefused :
    ¬ ([0x00, 0x01, 0x02, 0x10, 0x10] : List Byte).Nodup
      ∧ ({ conf .be with rxBufSize := 11 } : Configuration).rxBufSize.val < 12
      ∧ ({ conf .be with chunkMax := 0 } : Configuration).chunkMax < 1 := by decide

theorem witness_CrcAndEncoderFrame :
    isCrcPort (.crcLoad 0) = true ∧ completes [.crcLoad 0] (start .be) = true
      ∧ completes [.txFrame 0x01 0x02 [0x11]] (start .be) = true ∧ completes [.txBegin 0x01 0x02 1] (start .be) = true
      ∧ completes [.txChunk [0x11]] opened = true ∧ completes [.txEnd] opened = true
      ∧ completes [.txAck 0x01 0 0 0, .txFormatSet 0x01 4 2 2] (start .be) = true := by decide +kernel

theorem witness_ChunkerFrame : completes [.txImage 0x01 1 2] (withSamples .be [0x1234, 0xABCD]) = true := by decide +kernel

theorem witness_ReceiveFrame :
    completes [.rxByte 0xA1, .rxBoundary, .rxDecode] (start .be) = true ∧ completes [.rxProcess] announced = true
      ∧ announced.between = [] := by decide +kernel

theorem witness_ConsumerFrame :
    (Instr.ack 0x01 []).isOperation = false ∧ completes [.ack 0x01 [], .formatSet 0x01 [], .imageData 0x01 []] (start .be) = true
      ∧ completes [.writeRegister 0x01 [1, 2], .unknown 0x01 0x7F []] (start .be) = true
      ∧ completes [.readRegister 0x01 [1, 2, 3]] opened = true := by decide +kernel

/-- A full, overflowed buffer. -/
theorem witness_EveryStepKeepsInv :
    let s := { start .be with rxCount := 64, rxOvf := true }
    MachineInv s ∧ (nextOf (step (asked [0x62] s))).isSome = true ∧ MachineInv (asked [0x62] s) := by
  unfold MachineInv BuffersOk ChannelOk
  decide +kernel

/-- With a frame open, and the next turn a chunk of it. -/
theorem witness_EveryStepKeepsTxInv :
    TxInv (asked [0x51, 0x12] opened) ∧ NoResetInFrame (asked [0x51, 0x12] opened)
      ∧ (nextOf (step (asked [0x51, 0x12] opened))).isSome = true := by
  refine ⟨?_, ?_, by decide +kernel⟩
  · refine ⟨[], [], 0x01, 0x10, 2, ⟨[], by simp, rfl⟩, by decide, by decide +kernel, by decide +kernel, by decide +kernel⟩
  · intro r rest h hd
    have : r = .operation [0x51, 0x12] := by
      simp only [asked] at h
      injection h with h _
      injection h with h
      exact h.symm
    subst this
    exact absurd hd (by decide +kernel)

theorem witness_TxOutOnlyGrows : (nextOf (step (asked [0x53, 0x01, 0x00] (start .be)))).isSome = true := by decide +kernel

theorem witness_OnlyResetWritesConfiguration :
    completes [.crcRead] (start .be) = true ∧ Instr.crcRead ≠ .reset ∧ completes [.reset] (start .be) = true := by decide +kernel

theorem witness_CrcPortIsIsolated : isCrcPort (.txFrame 0x01 0x00 []) = false ∧ Instr.txFrame 0x01 0x00 [] ≠ .reset := by decide

theorem witness_ProducerCommutesWithTransmit : isCrcPort .crcRead = true ∧ isTransmit (.txImage 0x01 1 1) = true := by decide

/-- Everything unspecified differs: the accumulator that was never loaded, the idle encoder's registers, both buffers. -/
theorem witness_UnspecifiedStateIsUnobservable :
    Alike (start .be) { start .be with crcAcc := 0x1234, txCrc := 0x5678, txRemain := 9, chunkBuf := [(0, 1)], rxBuf := [(3, 7)] } := by
  refine ⟨rfl, fun h => absurd h (by decide +kernel), fun h => absurd h (by decide +kernel), fun a h => absurd h (Nat.not_lt_zero a), ?_⟩
  decide +kernel

theorem witness_RefusedOperationChangesNothing :
    (Instr.txChunk [0x01]).isOperation = true ∧ (Instr.txChunk [0x01]).issuer = .controller
      ∧ completes [.txChunk [0x01]] (start .be) = true
      ∧ (after [.txChunk [0x01]] (start .be)).result = some (.refused .txNotOpen) := by decide +kernel

end Sys2Proof.Tests
end

section
/-! SUPPORT. The decoder at the operation port, said once: which instruction each select code and its operand bytes stand for, and
what is refused (30_encoding.md R75, R76). -/

namespace Sys2Proof

/-- The rows of R75 as a relation: the operand bytes that follow a select code, and the operation they stand for. -/
inductive SelectsOperation : Byte → List Byte → Instr → Prop where
  | crcLoad (h l : Byte) : SelectsOperation 0x40 [h, l] (.crcLoad (joinBytes h l))
  | crcByte (b : Byte) : SelectsOperation 0x41 [b] (.crcByte b)
  | crcBlock (bs : List Byte) : SelectsOperation 0x42 bs (.crcBlock bs)
  | crcRead : SelectsOperation 0x43 [] .crcRead
  | txBegin (addr cmd : Byte) (digits : List Byte) :
      SelectsOperation 0x50 (addr :: cmd :: digits) (.txBegin addr cmd (natOfBytes digits))
  | txChunk (bs : List Byte) : SelectsOperation 0x51 bs (.txChunk bs)
  | txEnd : SelectsOperation 0x52 [] .txEnd
  | txFrame (addr cmd : Byte) (payload : List Byte) :
      SelectsOperation 0x53 (addr :: cmd :: payload) (.txFrame addr cmd payload)
  | txAck (addr status sh sl value : Byte) :
      SelectsOperation 0x54 [addr, status, sh, sl, value] (.txAck addr status (joinBytes sh sl) value)
  | txFormatSet (addr fmt wh wl hh hl : Byte) :
      SelectsOperation 0x55 [addr, fmt, wh, wl, hh, hl] (.txFormatSet addr fmt (joinBytes wh wl) (joinBytes hh hl))
  | txImage (addr wh wl hh hl : Byte) :
      SelectsOperation 0x56 [addr, wh, wl, hh, hl] (.txImage addr (joinBytes wh wl) (joinBytes hh hl))
  | rxByte (b : Byte) : SelectsOperation 0x60 [b] (.rxByte b)
  | rxBoundary : SelectsOperation 0x61 [] .rxBoundary
  | rxDecode : SelectsOperation 0x62 [] .rxDecode
  | rxProcess : SelectsOperation 0x63 [] .rxProcess
  | reset : SelectsOperation 0x7F [] .reset

/-- The decoder answers an operation exactly where a row of R75 gives one. -/
theorem decodeSelected_eq_ok_iff {sel : Byte} {ops : List Byte} {i : Instr} :
    decodeSelected sel ops = .ok i ↔ SelectsOperation sel ops i := by
  constructor
  · fun_cases decodeSelected sel ops <;> rintro ⟨⟩
    all_goals subst sel; constructor
  · rintro ⟨⟩ <;> rfl

/-- The select code in the row of an operation is the one it is written with (R76). -/
theorem SelectsOperation.eq_selectByte {sel : Byte} {ops : List Byte} {i : Instr} (h : SelectsOperation sel ops i)
    (codes : CommandCodes) : sel = selectByte codes i := by
  cases h <;> rfl

/-- The select codes the table of R76 assigns. -/
def assignedSelects : List Byte :=
  [0x40, 0x41, 0x42, 0x43, 0x50, 0x51, 0x52, 0x53, 0x54, 0x55, 0x56, 0x60, 0x61, 0x62, 0x63, 0x7F]

/-- A select code outside the table is refused, whatever follows it (R76). -/
theorem decodeSelected_unassigned {sel : Byte} (h : sel ∉ assignedSelects) (ops : List Byte) :
    decodeSelected sel ops = .error (.unassignedSelect sel) := by
  simp only [assignedSelects, List.mem_cons, List.not_mem_nil, or_false, not_or] at h
  simp only [decodeSelected, h, if_false]

end Sys2Proof

namespace Sys2Proof.Machine

/-- A turn whose request is no instruction is refused for the decoder's reason (R76). -/
theorem step_of_undecodable {s : State} {r : Request} {rest : List Turn} {e : DecodeError}
    (hturn : s.agenda = .request r :: rest) (hdecode : decode s.cfg.codes r = .error e) :
    step s = .refused (.undecodable e) := by
  simp only [step, hturn, runTurn, runRequest, hdecode]

/-- Settles O4: the codes are read off the encoder, the decoder's rows begin with them, and it falls through on every other
byte. -/
theorem selectCodes : Obligations.SelectCodes := by
  refine ⟨?codes, ?decoded, ?unassigned⟩
  case codes => simp only [selectByte, and_self, implies_true]
  case decoded => exact fun codes i ops sel h => (decodeSelected_eq_ok_iff.mp h).eq_selectByte codes
  case unassigned =>
    intro sel ops h
    have hrefused : decodeOperation (sel :: ops) = .error (.unassignedSelect sel) := decodeSelected_unassigned h ops
    exact ⟨hrefused, fun s rest hturn => step_of_undecodable hturn hrefused⟩

end Sys2Proof.Machine
end

section
/-! SUPPORT. Fields of the wire: the value two and four bytes assemble to under each byte order, and the bytes a value is taken
apart into (30_encoding.md R62). -/

namespace Sys2Proof.Machine

/-- Concatenation is positional notation: the high part weighs `2 ^ n`. -/
theorem toNat_append_eq_add {m n : Nat} (hi : BitVec m) (lo : BitVec n) :
    (hi ++ lo).toNat = hi.toNat * 2 ^ n + lo.toNat := by
  rw [BitVec.toNat_append, ← Nat.shiftLeft_add_eq_or_of_lt lo.isLt, Nat.shiftLeft_eq]

@[simp] theorem joinBytes_toNat (hi lo : Byte) : (joinBytes hi lo).toNat = hi.toNat * 256 + lo.toNat :=
  toNat_append_eq_add hi lo

/-- Four bytes, the first the most significant. -/
theorem append_bytes_toNat (b3 b2 b1 b0 : Byte) :
    (b3 ++ b2 ++ b1 ++ b0).toNat = b3.toNat * 2 ^ 24 + b2.toNat * 2 ^ 16 + b1.toNat * 2 ^ 8 + b0.toNat := by
  simp only [toNat_append_eq_add]
  omega

/-- The four bytes of a word, most significant first, make it up again. -/
theorem append_extracted_bytes (v : Word) :
    v.extractLsb' 24 8 ++ v.extractLsb' 16 8 ++ v.extractLsb' 8 8 ++ v.extractLsb' 0 8 = v := by
  apply BitVec.eq_of_toNat_eq
  simp only [append_bytes_toNat, BitVec.extractLsb'_toNat, Nat.shiftRight_eq_div_pow]
  omega

/-- Each byte of a word assembled from four is the one put there. -/
theorem extracted_bytes_append (b3 b2 b1 b0 : Byte) :
    (b3 ++ b2 ++ b1 ++ b0).extractLsb' 24 8 = b3 ∧ (b3 ++ b2 ++ b1 ++ b0).extractLsb' 16 8 = b2
      ∧ (b3 ++ b2 ++ b1 ++ b0).extractLsb' 8 8 = b1 ∧ (b3 ++ b2 ++ b1 ++ b0).extractLsb' 0 8 = b0 := by
  simp only [BitVec.extractLsb'_append_eq_of_le, BitVec.extractLsb'_append_eq_right, BitVec.extractLsb'_eq_self,
    Nat.reduceLeDiff, Nat.reduceSub, and_self]

/-- What `enc16` writes, `dec16` reads back. -/
theorem dec16_of_enc16_eq {e : WireEndian} {v : Half} {s0 s1 : Byte} (h : enc16 e v = [s0, s1]) : dec16 e s0 s1 = v := by
  cases e <;> cases h <;> exact joinBytes_hi_lo v

@[simp] theorem enc16_dec16 (e : WireEndian) (s0 s1 : Byte) : enc16 e (dec16 e s0 s1) = [s0, s1] := by
  cases e <;> simp only [enc16, dec16, hiByte_joinBytes, loByte_joinBytes]

/-- What `enc32` writes, `dec32` reads back. -/
theorem dec32_of_enc32_eq {e : WireEndian} {v : Word} {s0 s1 s2 s3 : Byte} (h : enc32 e v = [s0, s1, s2, s3]) :
    dec32 e s0 s1 s2 s3 = v := by
  cases e <;> cases h <;> exact append_extracted_bytes v

@[simp] theorem enc32_dec32 (e : WireEndian) (s0 s1 s2 s3 : Byte) : enc32 e (dec32 e s0 s1 s2 s3) = [s0, s1, s2, s3] := by
  cases e <;> simp only [enc32, dec32, extracted_bytes_append]

/-- Settles O7, one table row or inverse each: the values from concatenation as positional notation, the inverses from taking a
concatenation apart. -/
theorem fieldsAssemble : Obligations.FieldsAssemble := by
  refine ⟨?value16, ?value32, ?decEnc16, enc16_dec16, ?decEnc32, enc32_dec32⟩
  case value16 => exact fun s0 s1 => ⟨joinBytes_toNat s0 s1, joinBytes_toNat s1 s0⟩
  case value32 => exact fun s0 s1 s2 s3 => ⟨append_bytes_toNat s0 s1 s2 s3, append_bytes_toNat s3 s2 s1 s0⟩
  case decEnc16 =>
    intro e v
    obtain ⟨s0, s1, h⟩ := List.length_eq_two.mp (enc16_length e v)
    exact ⟨s0, s1, h, dec16_of_enc16_eq h⟩
  case decEnc32 =>
    intro e v
    obtain ⟨s0, s1, s2, s3, h⟩ := List.length_eq_four.mp (enc32_length e v)
    exact ⟨s0, s1, s2, s3, h, dec32_of_enc32_eq h⟩

end Sys2Proof.Machine
end

section
/-! SUPPORT. The CRC function bit by bit and over pieces, and the operations of its software port, loaded and not loaded
(40_crc_engine.md R90 to R97). -/

namespace Sys2Proof.Machine

/-! ### The CRC function -/

/-- The set bits of the reflected polynomial (R90). -/
theorem getLsbD_polynomial : ∀ k < 16, (0xA001 : Half).getLsbD k = (k == 0 || k == 13 || k == 15) := by
  decide

/-- One iteration of R90, bit by bit. -/
theorem getLsbD_crcShift (a : Half) {k : Nat} (hk : k < 16) :
    (crcShift a).getLsbD k
      = ((decide (k < 15) && a.getLsbD (k + 1)) ^^ (a.getLsbD 0 && (k == 0 || k == 13 || k == 15))) := by
  have hshift : (a >>> 1).getLsbD k = (decide (k < 15) && a.getLsbD (k + 1)) := by
    rw [BitVec.getLsbD_ushiftRight, Nat.add_comm]
    by_cases h15 : k < 15
    · simp only [h15, decide_true, Bool.true_and]
    · simp only [h15, decide_false, Bool.false_and]
      exact BitVec.getLsbD_of_ge a (k + 1) (by omega)
  cases hout : a.getLsbD 0 with
  | false => simp only [crcShift, hout, hshift, Bool.false_eq_true, if_false, Bool.false_and, Bool.xor_false]
  | true => simp only [crcShift, hout, hshift, if_true, BitVec.getLsbD_xor, getLsbD_polynomial k hk, Bool.true_and]

/-- One more iteration may as well be done last. -/
theorem crcShifts_succ (n : Nat) (a : Half) : crcShifts (n + 1) a = crcShift (crcShifts n a) := by
  induction n generalizing a with
  | zero => rfl
  | succ n ih => exact ih (crcShift a)

/-- The pieces of a sequence one after the other give the CRC of the whole (R92). -/
theorem crc16Update_flatten (acc : Half) (pieces : List (List Byte)) :
    crc16Update acc pieces.flatten = pieces.foldl crc16Update acc := List.foldl_flatten

/-- Settles O11: the sequence is the successive iterations of `crcShifts`. -/
theorem crcByteBitSerial : Obligations.CrcByteBitSerial := by
  intro acc b
  refine ⟨fun n => crcShifts n (acc ^^^ b.setWidth 16), rfl, ?iteration, rfl⟩
  case iteration =>
    intro n _ k hk
    simp only [crcShifts_succ]
    exact getLsbD_crcShift _ hk

/-- Settles O12: the CRC is a left fold. -/
theorem crcResumable : Obligations.CrcResumable :=
  ⟨fun seed as bs => (crc16Update_append seed as bs).symm, fun seed pieces => (crc16Update_flatten seed pieces).symm⟩

/-! ### The operations of the port -/

theorem exec_crcBlock_of_not_loaded {s : State} (h : s.crcValid = false) (bs : List Byte) :
    exec (.crcBlock bs) s = .next (s.refusing .crcNotLoaded) := if_pos h

theorem exec_crcBlock_of_loaded {s : State} (h : s.crcValid = true) (bs : List Byte) :
    exec (.crcBlock bs) s = .next ({ s with crcAcc := crc16Update s.crcAcc bs }.returning .ok) :=
  if_neg (by simp [h])

/-- CRC_BYTE is CRC_BLOCK of one byte, loaded or not. -/
theorem exec_crcByte_eq_crcBlock (b : Byte) (s : State) : exec (.crcByte b) s = exec (.crcBlock [b]) s := rfl

theorem exec_crcRead_of_not_loaded {s : State} (h : s.crcValid = false) :
    exec .crcRead s = .next (s.refusing .crcNotLoaded) := if_pos h

theorem exec_crcRead_of_loaded {s : State} (h : s.crcValid = true) :
    exec .crcRead s = .next (s.returning (.value s.crcAcc)) :=
  if_neg (by simp [h])

/-- Settles O9: a load, then the read and the byte step, the latter as a block of one byte, on each side of `CRC_VALID`. -/
theorem crcPortResults : Obligations.CrcPortResults := by
  intro s
  refine ⟨fun seed => rfl, fun h => ⟨fun b => ?byteLoaded, exec_crcRead_of_loaded h⟩,
    fun h => ⟨fun b => ?byteNotLoaded, exec_crcRead_of_not_loaded h⟩⟩
  case byteLoaded => exact (exec_crcByte_eq_crcBlock b s).trans (exec_crcBlock_of_loaded h [b])
  case byteNotLoaded => exact (exec_crcByte_eq_crcBlock b s).trans (exec_crcBlock_of_not_loaded h [b])

/-! ### Blocks one after the other -/

theorem runAll_singleton (i : Instr) (s : State) : runAll [i] s = exec i s := by
  cases h : exec i s <;> simp only [runAll, h]

/-- After a load, two blocks at the front of a program may be joined: the second outcome overwrites the first. -/
theorem runAll_join_crcBlocks {s : State} (h : s.crcValid = true) (as bs : List Byte) (is : List Instr) :
    runAll (.crcBlock as :: .crcBlock bs :: is) s = runAll (.crcBlock (as ++ bs) :: is) s := by
  have hnext : ({ s with crcAcc := crc16Update s.crcAcc as }.returning .ok).crcValid = true := h
  simp only [runAll, exec_crcBlock_of_loaded h, exec_crcBlock_of_loaded hnext, crc16Update_append]
  rfl

/-- After a load, a block for each piece leaves what one over the whole leaves: join the pieces from the front (R96). -/
theorem runAll_crcBlocks {s : State} (h : s.crcValid = true) (as : List Byte) (pieces : List (List Byte)) :
    runAll ((as :: pieces).map Instr.crcBlock) s = exec (.crcBlock (as :: pieces).flatten) s := by
  induction pieces generalizing as with
  | nil => simp only [List.map_cons, List.map_nil, runAll_singleton, List.flatten_cons, List.flatten_nil, List.append_nil]
  | cons bs pieces ih =>
    calc runAll ((as :: bs :: pieces).map Instr.crcBlock) s
      _ = runAll (((as ++ bs) :: pieces).map Instr.crcBlock) s := runAll_join_crcBlocks h as bs (pieces.map Instr.crcBlock)
      _ = exec (.crcBlock ((as ++ bs) :: pieces).flatten) s := ih (as ++ bs)
      _ = exec (.crcBlock (as :: bs :: pieces).flatten) s := by simp only [List.flatten_cons, List.append_assoc]

/-- Bytes one after the other are blocks of one byte one after the other. -/
theorem runAll_crcBytes (bs : List Byte) (s : State) :
    runAll (bs.map Instr.crcByte) s = runAll ((bs.map fun b => [b]).map Instr.crcBlock) s := by
  induction bs generalizing s with
  | nil => rfl
  | cons b bs ih => simp only [List.map_cons, runAll, exec_crcByte_eq_crcBlock, ih]

/-- Settles O10: blocks over pieces join, and bytes are pieces of length one. -/
theorem crcBlockResult : Obligations.CrcBlockResult := by
  intro s
  refine ⟨exec_crcBlock_of_not_loaded, fun h => ?_⟩
  have hpieces : ∀ pieces, pieces ≠ [] → runAll (pieces.map Instr.crcBlock) s = exec (.crcBlock pieces.flatten) s
    | [], hne => absurd rfl hne
    | as :: pieces, _ => runAll_crcBlocks h as pieces
  refine ⟨exec_crcBlock_of_loaded h, ?bytes, hpieces, exec_crcBlock_of_loaded h []⟩
  case bytes =>
    intro bs hne
    have hflatten : (bs.map fun b => [b]).flatten = bs := List.flatMap_singleton' bs
    rw [runAll_crcBytes, hpieces _ (mt List.map_eq_nil_iff.mp hne), hflatten]

end Sys2Proof.Machine
end

section
/-! SUPPORT. The frame encoder's operations, one equation per end of each, and the frame they make together
(41_frame_encoder.md R111 to R121). -/

namespace Sys2Proof.Machine

/-! ### The primitive operations -/

theorem txBegin_of_open {s : State} (h : s.txState = .payload) (addr cmd : Byte) (plen : Nat) :
    txBegin addr cmd plen s = s.refusing .txBusy := by
  simp [txBegin, h]

theorem txBegin_of_overflow {s : State} (h : s.txState = .idle) {plen : Nat} (hlong : maxLength < frameLength plen)
    (addr cmd : Byte) : txBegin addr cmd plen s = s.refusing .txLengthOverflow := by
  simp [txBegin, h, hlong]

theorem txChunk_of_idle {s : State} (h : s.txState = .idle) (bs : List Byte) : txChunk bs s = s.refusing .txNotOpen := by
  simp [txChunk, h]

theorem txChunk_of_overrun {s : State} (h : s.txState = .payload) {bs : List Byte} (hlong : s.txRemain.toNat < bs.length) :
    txChunk bs s = s.refusing .txOverrun := by
  simp [txChunk, h, hlong]

/-- `txChunk_ok` for a write that returns for either reason: the sink returns, or the chunk is empty (R115, D9). -/
theorem txChunk_of_writeReturns {s : State} {bs : List Byte} (h : s.txState = .payload)
    (hfits : bs.length ≤ s.txRemain.toNat) (hwrite : writeReturns s bs = true) :
    txChunk bs s = (s.sendPayload bs).returning .ok := by
  simp [txChunk, h, Nat.not_lt_of_le hfits, hwrite]

theorem txEnd_of_idle {s : State} (h : s.txState = .idle) : txEnd s = s.refusing .txNotOpen := by
  simp [txEnd, h]

theorem txEnd_of_underrun {s : State} (h : s.txState = .payload) (hremain : s.txRemain ≠ 0) :
    txEnd s = s.refusing .txUnderrun :=
  (if_neg (not_not.mpr h)).trans (if_pos hremain)

/-- Settles O15: one equation per end; the header and the bound on its length field are the model's by definition. -/
theorem txBeginResult : Obligations.TxBeginResult := by
  intro s addr cmd plen
  refine ⟨fun hopen => ?busy, fun hidle hlong => ?overflow, fun hidle hfits hsink => ?ok⟩
  case busy => exact congrArg Host.Outcome.next (txBegin_of_open hopen addr cmd plen)
  case overflow => exact congrArg Host.Outcome.next (txBegin_of_overflow hidle hlong addr cmd)
  case ok => exact congrArg Host.Outcome.next (txBegin_ok hidle hfits hsink addr cmd)

/-- Settles O16: one equation per end; `TX_REMAIN` does not wrap, since the chunk fits it. -/
theorem txChunkResult : Obligations.TxChunkResult := by
  intro s bs
  refine ⟨fun hidle => ?notOpen, fun hopen hlong => ?overrun, fun hopen hfits hwrite => ?ok⟩
  case notOpen => exact congrArg Host.Outcome.next (txChunk_of_idle hidle bs)
  case overrun => exact congrArg Host.Outcome.next (txChunk_of_overrun hopen hlong)
  case ok =>
    have hreturns : writeReturns s bs = true := by
      rcases hwrite with hsink | rfl
      · exact writeReturns_of_returns hsink bs
      · exact writeReturns_nil s
    exact ⟨s.txRemain - BitVec.ofNat 32 bs.length, remain_sub hfits,
      congrArg Host.Outcome.next (txChunk_of_writeReturns hopen hfits hreturns)⟩

/-- Settles O17: one equation per end. -/
theorem txEndResult : Obligations.TxEndResult := by
  intro s
  refine ⟨fun hidle => ?notOpen, fun hopen hremain => ?underrun, fun hopen hremain hsink => ?ok⟩
  case notOpen => exact congrArg Host.Outcome.next (txEnd_of_idle hidle)
  case underrun => exact congrArg Host.Outcome.next (txEnd_of_underrun hopen hremain)
  case ok => exact congrArg Host.Outcome.next (txEnd_ok hopen hremain hsink)

/-! ### The whole frame -/

/-- Where TX_BEGIN refuses, TX_FRAME ends with that refusal (R119). -/
theorem txFrame_of_begin_refused {s : State} {addr cmd : Byte} {payload : List Byte} {r : OpRefusal}
    (h : txBegin addr cmd payload.length s = s.refusing r) : txFrame addr cmd payload s = s.refusing r := by
  have hstop : (s.refusing r).result ≠ some .ok := by simp
  rw [txFrame, h, andThen_of_not_ok hstop, andThen_of_not_ok hstop]

/-- Where the frame fits and the sink returns, TX_FRAME opens the frame, sends the payload whole and closes it (R119). -/
theorem txFrame_ok {s : State} {payload : List Byte} (h : CanSend s payload.length) (addr cmd : Byte) :
    txFrame addr cmd payload s
      = ((s.openFrame addr cmd payload.length).sendPayload payload).closeFrame.returning .ok := by
  obtain ⟨hidle, hfits, hsink⟩ := h
  have hbegin := txBegin_ok hidle hfits (sinkReturnsAt_mono (Nat.zero_le _) hsink) addr cmd
  have hchunk : txChunk payload ((s.openFrame addr cmd payload.length).returning .ok)
      = ((s.openFrame addr cmd payload.length).sendPayload payload).returning .ok :=
    txChunk_ok rfl (remain_ofNat hfits).ge (by simpa using sinkReturnsAt_mono (Nat.le_add_right _ _) hsink)
  have hend : txEnd (((s.openFrame addr cmd payload.length).sendPayload payload).returning .ok)
      = ((s.openFrame addr cmd payload.length).sendPayload payload).closeFrame.returning .ok :=
    txEnd_ok rfl (BitVec.sub_self _) (by simpa using hsink)
  rw [txFrame, hbegin, andThen_of_ok (returning_result _ .ok), hchunk, andThen_of_ok (returning_result _ .ok), hend]

/-- A frame sent from an idle encoder leaves it idle, the three writes side by side on `TX_OUT` and `TX_CRC` over the first
two. -/
theorem closeFrame_sendPayload_openFrame {s : State} (hidle : s.txState = .idle) (addr cmd : Byte) (payload : List Byte) :
    ((s.openFrame addr cmd payload.length).sendPayload payload).closeFrame
      = { s with txOut := s.txOut ++ frameBytes s.cfg addr cmd payload,
                 txCrc := crc16Update s.cfg.crcSeed (frameBody s.cfg addr cmd payload), txRemain := 0 } := by
  simp [State.closeFrame, State.sendPayload, State.openFrame, State.emit, frameBytes, frameBody, crc16Update_append, hidle]

/-- With a frame open TX_FRAME is refused, whatever it would send (R119). -/
theorem exec_txFrame_of_open {s : State} (h : s.txState = .payload) (addr cmd : Byte) (payload : List Byte) :
    exec (.txFrame addr cmd payload) s = .next (s.refusing .txBusy) :=
  congrArg Host.Outcome.next (txFrame_of_begin_refused (txBegin_of_open h addr cmd payload.length))

/-- What TX_FRAME leaves where the frame goes out, for a payload whose length is known (R119). -/
theorem exec_txFrame_of_canSend {s : State} {payload : List Byte} {n : Nat} (hlen : payload.length = n) (h : CanSend s n)
    (addr cmd : Byte) :
    exec (.txFrame addr cmd payload) s
      = .next { s with txOut := s.txOut ++ frameBytes s.cfg addr cmd payload,
                       txCrc := crc16Update s.cfg.crcSeed (header s.cfg addr cmd n ++ payload), txRemain := 0,
                       result := some .ok } := by
  subst hlen
  have hidle : s.txState = .idle := h.1
  apply congrArg Host.Outcome.next
  rw [txFrame_ok h, closeFrame_sendPayload_openFrame hidle]
  rfl

/-- Settles O18: the refusals are TX_BEGIN's; otherwise the three steps in a row make the frame. -/
theorem txFrameResult : Obligations.TxFrameResult := by
  intro s addr cmd payload
  refine ⟨fun hopen => ?busy, fun hidle hlong => ?overflow, fun hsend => ?ok⟩
  case busy => exact exec_txFrame_of_open hopen addr cmd payload
  case overflow => exact congrArg Host.Outcome.next (txFrame_of_begin_refused (txBegin_of_overflow hidle hlong addr cmd))
  case ok => exact exec_txFrame_of_canSend rfl hsend addr cmd

/-! ### The acknowledgement and the format announcement -/

@[simp] theorem ackPayload_length (e : WireEndian) (status : Byte) (seq : Half) (value : Byte) :
    (ackPayload e status seq value).length = 4 := by
  simp [ackPayload]

@[simp] theorem formatSetPayload_length (e : WireEndian) (fmt : Byte) (width height : Half) :
    (formatSetPayload e fmt width height).length = 5 := by
  simp [formatSetPayload]

/-- TX_ACK is TX_FRAME with the configured code and the acknowledgement's payload (R120). -/
theorem exec_txAck_eq_txFrame (s : State) (addr status : Byte) (seq : Half) (value : Byte) :
    exec (.txAck addr status seq value) s
      = exec (.txFrame addr s.cfg.codes.ack (ackPayload s.cfg.endian status seq value)) s := rfl

/-- TX_FORMATSET is TX_FRAME with the configured code and the announcement's payload (R121). -/
theorem exec_txFormatSet_eq_txFrame (s : State) (addr fmt : Byte) (width height : Half) :
    exec (.txFormatSet addr fmt width height) s
      = exec (.txFrame addr s.cfg.codes.formatSet (formatSetPayload s.cfg.endian fmt width height)) s := rfl

/-- Settles O19: both are TX_FRAME, of payloads of four and of five bytes. -/
theorem txAckFormatSetResult : Obligations.TxAckFormatSetResult := by
  intro s addr x y v w ackP fmtP
  have hack := exec_txAck_eq_txFrame s addr x v y
  have hfmt := exec_txFormatSet_eq_txFrame s addr x v w
  refine ⟨fun hopen => ⟨?ackBusy, ?fmtBusy⟩, fun hsend => ?ackSent, fun hsend => ?fmtSent, hack, hfmt⟩
  case ackBusy => exact hack.trans (exec_txFrame_of_open hopen addr _ _)
  case fmtBusy => exact hfmt.trans (exec_txFrame_of_open hopen addr _ _)
  case ackSent => exact hack.trans (exec_txFrame_of_canSend (ackPayload_length s.cfg.endian x v y) hsend addr _)
  case fmtSent => exact hfmt.trans (exec_txFrame_of_canSend (formatSetPayload_length s.cfg.endian x v w) hsend addr _)

end Sys2Proof.Machine
end

section
/-! SUPPORT. The chunker: TX_IMAGE's tests one by one, what its loop sends, and when it signals (42_chunker.md R141 to R149). -/

namespace Sys2Proof.Machine

/-! ### The tests of TX_IMAGE -/

theorem txImage_of_not_ready {s : State} (h : s.captureReady = false) (addr : Byte) (width height : Half) :
    txImage addr width height s = s.returning .notReady := by
  simp [txImage, isCaptureReady, h]

theorem txImage_of_open {s : State} (hready : s.captureReady = true) (hopen : s.txState = .payload) (addr : Byte)
    (width height : Half) : txImage addr width height s = s.refusing .txBusy := by
  simp [txImage, isCaptureReady, hready, hopen]

theorem txImage_of_overflow {s : State} (hready : s.captureReady = true) (hidle : s.txState = .idle) {width height : Half}
    (hlong : maxLength < frameLength (width.toNat * height.toNat * 2)) (addr : Byte) :
    txImage addr width height s = s.refusing .txLengthOverflow := by
  simp [txImage, isCaptureReady, hready, hidle, hlong]

theorem txImage_of_chunk_too_large {s : State} (hready : s.captureReady = true) (hidle : s.txState = .idle)
    {width height : Half} (hfits : frameLength (width.toNat * height.toNat * 2) ≤ maxLength)
    (hlarge : s.cfg.chunkMax < 2 * height.toNat) (addr : Byte) :
    txImage addr width height s = s.refusing .txChunkTooLarge := by
  simp [txImage, isCaptureReady, hready, hidle, Nat.not_lt_of_le hfits, Nat.mul_comm height.toNat, hlarge]

/-- Past its four tests TX_IMAGE is TX_BEGIN, the chunks, TX_END and the signal (R141). -/
theorem txImage_of_accepted {s : State} (hready : s.captureReady = true) (hidle : s.txState = .idle) {width height : Half}
    (hfits : frameLength (width.toNat * height.toNat * 2) ≤ maxLength) (hchunk : 2 * height.toNat ≤ s.cfg.chunkMax)
    (addr : Byte) :
    txImage addr width height s
      = (((txBegin addr s.cfg.codes.imageData (width.toNat * height.toNat * 2) s).andThen
          (imageChunks height.toNat width.toNat)).andThen txEnd).andThen State.signalConsumed := by
  simp [txImage, isCaptureReady, hready, hidle, Nat.not_lt_of_le hfits, Nat.mul_comm height.toNat 2, Nat.not_lt_of_le hchunk]

/-- The frame of an image fits its length field exactly up to 2147483641 samples (R147). -/
theorem imageLength_overflows_iff (samples : Nat) : maxLength < frameLength (samples * 2) ↔ 2147483641 < samples := by
  simp only [maxLength, frameLength]
  omega

/-- Settles O22: one equation per test; the length field overflows exactly past 2147483641 samples. -/
theorem txImageTurnedAway : Obligations.TxImageTurnedAway := by
  intro s addr width height
  refine ⟨fun hnot => ?notReady, fun hready hopen => ?busy, fun hready hidle hmany => ?overflow,
    fun hready hidle hfew hlarge => ?tooLarge⟩
  case notReady => exact congrArg Host.Outcome.next (txImage_of_not_ready hnot addr width height)
  case busy => exact congrArg Host.Outcome.next (txImage_of_open hready hopen addr width height)
  case overflow =>
    have hlong := (imageLength_overflows_iff _).mpr hmany
    exact congrArg Host.Outcome.next (txImage_of_overflow hready hidle hlong addr)
  case tooLarge =>
    have hfits := Nat.le_of_not_lt (mt (imageLength_overflows_iff _).mp (Nat.not_lt_of_le hfew))
    exact congrArg Host.Outcome.next (txImage_of_chunk_too_large hready hidle hfits hlarge addr)

/-- TX_IMAGE is turned away with an outcome other than Ok, or passes its tests (R237). -/
theorem txImage_cases (addr : Byte) (width height : Half) (s : State) :
    (∃ o, o ≠ .ok ∧ txImage addr width height s = s.returning o)
      ∨ (s.captureReady = true ∧ s.txState = .idle ∧ frameLength (width.toNat * height.toNat * 2) ≤ maxLength
          ∧ 2 * height.toNat ≤ s.cfg.chunkMax) := by
  cases hready : s.captureReady with
  | false => exact .inl ⟨.notReady, nofun, txImage_of_not_ready hready addr width height⟩
  | true =>
    cases hstate : s.txState with
    | payload => exact .inl ⟨.refused .txBusy, nofun, txImage_of_open hready hstate addr width height⟩
    | idle =>
      rcases Nat.lt_or_ge maxLength (frameLength (width.toNat * height.toNat * 2)) with hlong | hfits
      · exact .inl ⟨.refused .txLengthOverflow, nofun, txImage_of_overflow hready hstate hlong addr⟩
      · rcases Nat.lt_or_ge s.cfg.chunkMax (2 * height.toNat) with hlarge | hchunk
        · exact .inl ⟨.refused .txChunkTooLarge, nofun, txImage_of_chunk_too_large hready hstate hfits hlarge addr⟩
        · exact .inr ⟨rfl, rfl, hfits, hchunk⟩

/-! ### What the loop sends -/

/-- From `s` to `t` exactly `bs` has gone out as payload; besides, only samples were pulled into the chunk buffer, and an
outcome was returned or the controller left without a step. -/
def SendsPayload (s t : State) (bs : List Byte) : Prop :=
  t = { s.sendPayload bs with
        pixels := t.pixels, chunkBuf := t.chunkBuf, result := t.result, controller := t.controller }

theorem sendPayload_nil (s : State) : s.sendPayload [] = s := by
  simp [State.sendPayload, State.emit]

theorem sendPayload_append (s : State) (as bs : List Byte) :
    s.sendPayload (as ++ bs) = (s.sendPayload as).sendPayload bs := by
  simp [State.sendPayload, State.emit, crc16Update_append, BitVec.ofNat_add, sub_add_eq_sub_sub]

/-- Nothing has gone out. -/
theorem sendsPayload_nil_iff {s t : State} :
    SendsPayload s t []
      ↔ t = { s with pixels := t.pixels, chunkBuf := t.chunkBuf, result := t.result, controller := t.controller } := by
  rw [SendsPayload, sendPayload_nil]

theorem SendsPayload.trans {s t u : State} {as bs : List Byte} (h : SendsPayload s t as) (k : SendsPayload t u bs) :
    SendsPayload s u (as ++ bs) := by
  rw [SendsPayload, sendPayload_append, k, h]
  rfl

theorem SendsPayload.consumedSignals {s t : State} {bs : List Byte} (h : SendsPayload s t bs) :
    t.consumedSignals = s.consumedSignals := by
  rw [h]
  rfl

/-- A frame whose declared payload has gone out whole is completed by its checksum (R63, R117). -/
theorem SendsPayload.closeFrame_txOut {s t : State} {addr cmd : Byte} {payload : List Byte}
    (h : SendsPayload (s.openFrame addr cmd payload.length) t payload) :
    t.closeFrame.txOut = s.txOut ++ frameBytes s.cfg addr cmd payload := by
  rw [h]
  simp [State.closeFrame, State.emit, frameBytes, frameBody, crc16Update_append]

/-- TX_CHUNK that returns Ok has sent its bytes; any other end sends none (R115). -/
theorem txChunk_sends (bs : List Byte) (s : State) :
    ∃ sent, SendsPayload s (txChunk bs s) sent ∧ ((txChunk bs s).result = some .ok → sent = bs) := by
  rcases txChunk_cases bs s with ⟨-, h⟩ | ⟨-, -, h⟩ | ⟨-, -, -, h⟩ | ⟨-, -, -, h⟩ <;> rw [h]
  case inr.inr.inl => exact ⟨bs, rfl, fun _ => rfl⟩
  all_goals exact ⟨[], sendsPayload_nil_iff.mpr rfl, nofun⟩

/-- One turn of the loop that returns Ok has sent one scanline (R141). -/
theorem imageChunk_sends (height : Nat) (s : State) :
    ∃ sent, SendsPayload s (imageChunk height s) sent
      ∧ ((imageChunk height s).result = some .ok → sent.length = 2 * height) := by
  rcases imageChunk_cases height s with ⟨-, h⟩ | ⟨-, h⟩ <;> rw [h]
  case inl => exact ⟨[], sendsPayload_nil_iff.mpr rfl, nofun⟩
  case inr =>
    obtain ⟨sent, hsends, hall⟩ := txChunk_sends
      (readBytes (writeBytes s.chunkBuf 0 (samplesBytes s.cfg.endian (s.pixels.take height))) 0 (2 * height))
      ((s.dropPixels height).fillChunk (s.pixels.take height))
    exact ⟨sent, hsends, fun hok => by rw [hall hok, readBytes_length]⟩

/-- `n` turns of the loop that return Ok have sent `n` scanlines (R141, R144). -/
theorem imageChunks_sends (height n : Nat) (s : State) :
    ∃ sent, SendsPayload s (imageChunks height n s) sent
      ∧ ((imageChunks height n s).result = some .ok → sent.length = n * height * 2) := by
  induction n generalizing s with
  | zero => exact ⟨[], sendsPayload_nil_iff.mpr rfl, fun _ => by simp⟩
  | succ n ih =>
    obtain ⟨first, hfirst, hline⟩ := imageChunk_sends height s
    rw [imageChunks]
    rcases andThen_cases (imageChunk height s) (imageChunks height n) with ⟨hok, h⟩ | ⟨hstop, h⟩ <;> rw [h]
    · obtain ⟨rest, hrest, hlines⟩ := ih (imageChunk height s)
      refine ⟨first ++ rest, hfirst.trans hrest, fun hdone => ?_⟩
      rw [List.length_append, hline hok, hlines hdone]
      ring
    · exact ⟨first, hfirst, fun hok => absurd hok hstop⟩

/-! ### The consumed signal -/

/-- TX_BEGIN returns Ok by opening the frame; any other end signals nothing. -/
theorem txBegin_ok_or_stops (addr cmd : Byte) (plen : Nat) (s : State) :
    txBegin addr cmd plen s = (s.openFrame addr cmd plen).returning .ok
      ∨ ((txBegin addr cmd plen s).result ≠ some .ok ∧ (txBegin addr cmd plen s).consumedSignals = s.consumedSignals) := by
  rcases txBegin_cases addr cmd plen s with ⟨-, h⟩ | ⟨-, -, h⟩ | ⟨-, -, -, h⟩ | ⟨-, -, -, h⟩
  case inr.inr.inl => exact .inl h
  all_goals exact .inr (by simp [h])

/-- TX_END returns Ok by closing the frame; any other end signals nothing. -/
theorem txEnd_ok_or_stops (s : State) :
    txEnd s = s.closeFrame.returning .ok
      ∨ ((txEnd s).result ≠ some .ok ∧ (txEnd s).consumedSignals = s.consumedSignals) := by
  rcases txEnd_cases s with ⟨-, h⟩ | ⟨-, -, h⟩ | ⟨-, -, -, h⟩ | ⟨-, -, -, h⟩
  case inr.inr.inl => exact .inl h
  all_goals exact .inr (by simp [h])

/-- How a TX_IMAGE ends (R146): with Ok, one signal and one whole frame; or with neither Ok nor a signal. -/
def SignalsAfterFrame (addr : Byte) (width height : Half) (s t : State) : Prop :=
  (t.result = some .ok ∧ t.consumedSignals = s.consumedSignals + 1 ∧ t.txState = .idle
      ∧ ∃ payload, payload.length = width.toNat * height.toNat * 2
        ∧ t.txOut = s.txOut ++ frameBytes s.cfg addr s.cfg.codes.imageData payload)
    ∨ (t.result ≠ some .ok ∧ t.consumedSignals = s.consumedSignals)

/-- The header is out: the loop, TX_END and the signal follow, each only after an Ok. -/
theorem imageBody_signals (addr : Byte) (width height : Half) (s : State) :
    SignalsAfterFrame addr width height s
      (((imageChunks height.toNat width.toNat
          ((s.openFrame addr s.cfg.codes.imageData (width.toNat * height.toNat * 2)).returning .ok)).andThen txEnd).andThen
        State.signalConsumed) := by
  obtain ⟨payload, hsends, hall⟩ := imageChunks_sends height.toNat width.toNat
    ((s.openFrame addr s.cfg.codes.imageData (width.toNat * height.toNat * 2)).returning .ok)
  generalize imageChunks height.toNat width.toNat _ = t at hsends hall ⊢
  have hsignals : t.consumedSignals = s.consumedSignals := hsends.consumedSignals
  rcases andThen_cases t txEnd with ⟨hok, h⟩ | ⟨hstop, h⟩ <;> rw [h]
  · rcases txEnd_ok_or_stops t with hend | ⟨hstop, hkept⟩
    · rw [hend, andThen_of_ok (returning_result _ .ok)]
      refine .inl ⟨rfl, congrArg (· + 1) hsignals, rfl, payload, hall hok, ?frame⟩
      case frame =>
        rw [← hall hok] at hsends
        exact SendsPayload.closeFrame_txOut hsends
    · rw [andThen_of_not_ok hstop]
      exact .inr ⟨hstop, hkept.trans hsignals⟩
  · rw [andThen_of_not_ok hstop]
    exact .inr ⟨hstop, hsignals⟩

theorem txImage_signals (addr : Byte) (width height : Half) (s : State) :
    SignalsAfterFrame addr width height s (txImage addr width height s) := by
  rcases txImage_cases addr width height s with ⟨o, hne, h⟩ | ⟨hready, hidle, hfits, hchunk⟩
  · rw [h]
    exact .inr ⟨by simpa using hne, rfl⟩
  · rw [txImage_of_accepted hready hidle hfits hchunk]
    rcases txBegin_ok_or_stops addr s.cfg.codes.imageData (width.toNat * height.toNat * 2) s with hbegin | ⟨hstop, hkept⟩
    · rw [hbegin, andThen_of_ok (returning_result _ .ok)]
      exact imageBody_signals addr width height s
    · rw [andThen_of_not_ok hstop, andThen_of_not_ok hstop, andThen_of_not_ok hstop]
      exact .inr ⟨hstop, hkept⟩

/-- Settles O24: the two ends of TX_IMAGE, told apart by its outcome. -/
theorem consumedSignalOnlyAfterTheFrame : Obligations.ConsumedSignalOnlyAfterTheFrame := by
  rintro s t addr width height ⟨⟩
  rcases txImage_signals addr width height s with ⟨hok, hsent⟩ | ⟨hstop, hkept⟩
  · exact ⟨fun _ => hsent, fun hne => absurd hok hne⟩
  · exact ⟨fun hok => absurd hok hstop, fun _ => hkept⟩

end Sys2Proof.Machine
end

section
/-! SUPPORT. The receive channel and the decoder: what the producer's events do, the frame tests read off the bytes of the
buffer, and RX_DECODE's ends one by one (43_receive_and_decode.md R160 to R171). -/

namespace Sys2Proof.Machine

/-! ### The producer's events -/

/-- Settles O26: RX_BYTE stores with room and overflows without (`rxByte_cases`); the byte at the old count is the one written. -/
theorem producerEventResults : Obligations.ProducerEventResults := by
  intro s b hwf
  refine ⟨fun hroom => ?stored, fun hfull => ?dropped, rfl⟩
  case stored =>
    exact ⟨writeByte s.rxBuf s.rxCount b, congrArg Host.Outcome.next (rxByte_room hroom b),
      readByte_writeByte_same (lo := 0) hwf s.rxCount b, fun a hne => readByte_writeByte_ne s.rxBuf b hne,
      writeByte_wf hwf s.rxCount b⟩
  case dropped =>
    rcases rxByte_cases b s with ⟨hroom, _⟩ | ⟨_, hoverflow⟩
    · exact absurd hfull (Nat.not_le_of_lt hroom)
    · exact congrArg Host.Outcome.next hoverflow

/-! ### The fields of a frame, read off the buffer -/

/-- A slice of bytes read from a buffer is a read of its own. -/
theorem slice_readBytes (m : Memory) (c : Nat) {a b n : Nat} (hab : a ≤ b) (hbn : b ≤ n) :
    slice (readBytes m c n) a b = readBytes m (c + a) (b - a) := by
  obtain ⟨k, rfl⟩ := Nat.exists_eq_add_of_le hab
  obtain ⟨l, rfl⟩ := Nat.exists_eq_add_of_le hbn
  have htake : (readBytes m c (a + k + l)).take (a + k) = readBytes m c (a + k) := by
    rw [readBytes_append m c (a + k) l, List.take_left' (readBytes_length m c (a + k))]
  rw [slice, htake, readBytes_append m c a k, List.drop_left' (readBytes_length m c a), Nat.add_sub_cancel_left]

theorem slice_bufferedBytes (s : State) {a b : Nat} (hab : a ≤ b) (hb : b ≤ s.rxCount) :
    slice (bufferedBytes s) a b = readBytes s.rxBuf a (b - a) := by
  rw [bufferedBytes, slice_readBytes s.rxBuf 0 hab hb, Nat.zero_add]

theorem byteAt_bufferedBytes {s : State} {i : Nat} (h : i < s.rxCount) : byteAt (bufferedBytes s) i = readByte s.rxBuf i := by
  rw [bufferedBytes, byteAt_readBytes h, Nat.zero_add]

/-- The magic test byte by byte is the test of R165 on the leading four bytes. -/
theorem slice_bufferedBytes_eq_magicBytes_iff {s : State} (h : 10 ≤ s.rxCount) :
    slice (bufferedBytes s) 0 4 = magicBytes s.cfg.magic ↔ MagicHolds s := by
  rw [slice_bufferedBytes s (Nat.zero_le 4) (by omega)]
  simp only [readBytes, magicBytes, MagicHolds, List.cons.injEq, and_true, Nat.zero_add, Nat.reduceAdd]

theorem declaredLength_bufferedBytes {s : State} (h : 10 ≤ s.rxCount) :
    declaredLength s.cfg.endian (bufferedBytes s) = lengthField s := by
  have hbyte : ∀ i < 10, byteAt (bufferedBytes s) i = readByte s.rxBuf i :=
    fun i hi => byteAt_bufferedBytes (Nat.lt_of_lt_of_le hi h)
  simp only [declaredLength, lengthField, hbyte, Nat.reduceLT]

/-! ### The tests in order (R162, R236) -/

theorem checkBuffer_of_short {s : State} (h : s.rxCount < 10) : checkBuffer s = .incomplete :=
  if_pos (by rwa [bufferedBytes_length])

theorem checkBuffer_of_not_magicHolds {s : State} (hcount : 10 ≤ s.rxCount) (hmagic : ¬ MagicHolds s) :
    checkBuffer s = .badMagic := by
  rw [checkBuffer, checkFrame, bufferedBytes_length, if_neg (Nat.not_lt_of_le hcount),
    if_pos (mt (slice_bufferedBytes_eq_magicBytes_iff hcount).mp hmagic)]

theorem not_lengthHolds_iff {s : State} :
    ¬ LengthHolds s ↔ lengthField s ≠ s.rxCount ∨ lengthField s < 12 ∨ s.rxOvf = true := by
  simp only [LengthHolds, not_and_or, not_le, Bool.not_eq_false, ne_eq]

/-- The length test as the frame check makes it, the overflow flag first. -/
theorem lengthTest_refuses_iff {s : State} :
    (s.rxOvf = true ∨ lengthField s ≠ s.rxCount ∨ lengthField s < 12) ↔ ¬ LengthHolds s :=
  or_comm.trans (or_assoc.trans not_lengthHolds_iff.symm)

theorem checkBuffer_of_not_lengthHolds {s : State} (hcount : 10 ≤ s.rxCount) (hmagic : MagicHolds s)
    (hlength : ¬ LengthHolds s) : checkBuffer s = .badLength := by
  rw [checkBuffer, checkFrame, bufferedBytes_length, if_neg (Nat.not_lt_of_le hcount),
    if_neg (not_not.mpr ((slice_bufferedBytes_eq_magicBytes_iff hcount).mpr hmagic)), declaredLength_bufferedBytes hcount,
    if_pos (lengthTest_refuses_iff.mpr hlength)]

/-- A frame whose magic and length are right has `RX_COUNT` bytes, all of them in the buffer: what remains is the checksum. -/
theorem checkBuffer_of_lengthHolds {s : State} (hmagic : MagicHolds s) (hlength : LengthHolds s) :
    checkBuffer s
      = if crc16Update s.cfg.crcSeed (readBytes s.rxBuf 0 (lengthField s - 2))
            ≠ dec16 s.cfg.endian (readByte s.rxBuf (lengthField s - 2)) (readByte s.rxBuf (lengthField s - 1)) then .badChecksum
        else .accepted (readByte s.rxBuf 4) (readByte s.rxBuf 9) (readBytes s.rxBuf 10 (lengthField s - 12)) := by
  have ⟨hcount, hleast, _⟩ := hlength
  have hten : 10 ≤ s.rxCount := by omega
  have hbyte : ∀ i < lengthField s, byteAt (bufferedBytes s) i = readByte s.rxBuf i :=
    fun i hi => byteAt_bufferedBytes (hcount ▸ hi)
  rw [checkBuffer, checkFrame, bufferedBytes_length, if_neg (Nat.not_lt_of_le hten),
    if_neg (not_not.mpr ((slice_bufferedBytes_eq_magicBytes_iff hten).mpr hmagic)), declaredLength_bufferedBytes hten,
    if_neg (lengthTest_refuses_iff.not.mpr (not_not.mpr hlength)), slice_bufferedBytes s (Nat.zero_le _) (by omega),
    slice_bufferedBytes s (by omega) (by omega), hbyte _ (by omega), hbyte _ (by omega), hbyte _ (by omega),
    hbyte _ (by omega), Nat.sub_zero, Nat.sub_sub]

/-! ### RX_DECODE -/

theorem exec_rxDecode_of_not_ready {s : State} (h : s.rxReady = false) :
    exec .rxDecode s = .next (s.returning (.decoded .noFrame)) := by
  obtain ⟨_, hdecode⟩ := (rxDecode_cases s).resolve_right fun hattempt => by simp [h] at hattempt
  simp only [exec, execRxDecode, hdecode, decodeOutcome]

/-- With the flag up RX_DECODE is one attempt, whatever it finds. -/
theorem exec_rxDecode_of_ready {s : State} (h : s.rxReady = true) :
    exec .rxDecode s
      = .next ((afterDecode s (checkBuffer s)).returning (.decoded ((checkBuffer s).outcome s.cfg))) := by
  obtain ⟨_, hdecode⟩ := (rxDecode_cases s).resolve_left fun hidle => by simp [h] at hidle
  simp only [exec, execRxDecode, hdecode, decodeOutcome]

/-- An attempt that found more than too few bytes clears the channel (R171). -/
theorem exec_rxDecode_of_checked {s : State} {f : FrameCheck} (h : s.rxReady = true) (hcheck : checkBuffer s = f)
    (hfound : f ≠ .incomplete) : exec .rxDecode s = .next (clearedWith s (f.outcome s.cfg)) := by
  rw [exec_rxDecode_of_ready h, hcheck, afterDecode_of_ne hfound]
  rfl

theorem FrameCheck.outcome_ne_noFrame (c : Configuration) (f : FrameCheck) : f.outcome c ≠ .noFrame := by
  cases f <;> nofun

/-- Settles O27: no attempt with the flag down; with it up one attempt, which lowers it and never finds NoFrame. -/
theorem rxDecodeFlagAndSize : Obligations.RxDecodeFlagAndSize := by
  intro s
  refine ⟨exec_rxDecode_of_not_ready, fun hready => ?attempt, fun hready hshort => ?short⟩
  case attempt =>
    exact ⟨_, _, exec_rxDecode_of_ready hready, afterDecode_rxReady s (checkBuffer s), returning_result _ _,
      FrameCheck.outcome_ne_noFrame s.cfg (checkBuffer s)⟩
  case short =>
    rw [exec_rxDecode_of_ready hready, checkBuffer_of_short hshort]
    rfl

/-- Settles O28: the magic is tested before the fields behind it are read. -/
theorem rxDecodeBadMagic : Obligations.RxDecodeBadMagic := by
  intro s hready hcount hmagic
  exact exec_rxDecode_of_checked hready (checkBuffer_of_not_magicHolds hcount hmagic) nofun

/-- Settles O29: the length test follows the magic's and does not look at the checksum. -/
theorem rxDecodeLengthMismatch : Obligations.RxDecodeLengthMismatch := by
  intro s hready hcount hmagic hlength
  exact exec_rxDecode_of_checked hready (checkBuffer_of_not_lengthHolds hcount hmagic (not_lengthHolds_iff.mpr hlength)) nofun

/-- Settles O30: under a right magic and length the checksum alone decides. -/
theorem rxDecodeChecksumMismatch : Obligations.RxDecodeChecksumMismatch := by
  intro s hready hmagic hlength hsum
  exact exec_rxDecode_of_checked hready ((checkBuffer_of_lengthHolds hmagic hlength).trans (if_pos hsum)) nofun

/-- Settles O31: the four tests passed, the check hands over the frame's fields and RX_DECODE dispatches them. -/
theorem rxDecodeAccepts : Obligations.RxDecodeAccepts := by
  intro s hready hmagic hlength hsum
  exact exec_rxDecode_of_checked hready
    ((checkBuffer_of_lengthHolds hmagic hlength).trans (if_neg (not_not.mpr hsum))) nofun

end Sys2Proof.Machine
end

section
/-! SUPPORT. The dispatch of an accepted frame: the selection by the command byte and what each parser gives for a payload of its
size and of another (43_receive_and_decode.md R172 to R181). -/

namespace Sys2Proof

/-- Distinct codes select their own command (R6, R172). -/
theorem commandKind_of_distinct {codes : CommandCodes} (h : codes.distinct = true) :
    commandKind codes codes.ack = .ack ∧ commandKind codes codes.formatSet = .formatSet
      ∧ commandKind codes codes.imageData = .imageData ∧ commandKind codes codes.writeReg = .writeRegister
      ∧ commandKind codes codes.readReg = .readRegister := by
  simp only [CommandCodes.distinct, Bool.and_eq_true, bne_iff_ne] at h
  obtain ⟨⟨⟨⟨⟨⟨⟨⟨⟨ackFormat, ackImage⟩, ackWrite⟩, ackRead⟩, formatImage⟩, formatWrite⟩, formatRead⟩, imageWrite⟩,
    imageRead⟩, writeRead⟩ := h
  refine ⟨if_pos rfl, ?_, ?_, ?_, ?_⟩
  · rw [commandKind, if_neg ackFormat.symm, if_pos rfl]
  · rw [commandKind, if_neg ackImage.symm, if_neg formatImage.symm, if_pos rfl]
  · rw [commandKind, if_neg ackWrite.symm, if_neg formatWrite.symm, if_neg imageWrite.symm, if_pos rfl]
  · rw [commandKind, if_neg ackRead.symm, if_neg formatRead.symm, if_neg imageRead.symm, if_neg writeRead.symm, if_pos rfl]

/-- A byte that is none of the codes selects the default (R181). -/
theorem commandKind_unknown {codes : CommandCodes} {cmd : Byte} (hack : cmd ≠ codes.ack) (hformat : cmd ≠ codes.formatSet)
    (himage : cmd ≠ codes.imageData) (hwrite : cmd ≠ codes.writeReg) (hread : cmd ≠ codes.readReg) :
    commandKind codes cmd = .unknown := by
  rw [commandKind, if_neg hack, if_neg hformat, if_neg himage, if_neg hwrite, if_neg hread]

end Sys2Proof

namespace Sys2Proof.Machine

/-! ### The parsers (R173 to R179), and what they give for a payload of another size (R177) -/

/-- An Ack of any size is accepted; only four bytes have a view (R173). -/
theorem parseAck_view (e : WireEndian) (addr : Byte) (payload : List Byte) :
    ∃ view, (∀ x s0 s1 y, payload = [x, s0, s1, y] → view = some ⟨x, dec16 e s0 s1, y⟩)
      ∧ (payload.length ≠ 4 → view = none) ∧ parseAck e addr payload = .ack addr payload view := by
  fun_cases parseAck e addr payload
  case case1 x s0 s1 y => exact ⟨_, by rintro _ _ _ _ ⟨⟩; rfl, fun hsize => absurd rfl hsize, rfl⟩
  case case2 hother => exact ⟨none, fun x s0 s1 y hfour => (hother x s0 s1 y hfour).elim, fun _ => rfl, rfl⟩

theorem parseFormatSet_of_length_ne {payload : List Byte} (h : payload.length ≠ 5) (c : Configuration) (addr : Byte) :
    parseFormatSet c addr payload = .unknown addr c.codes.formatSet := by
  fun_cases parseFormatSet c addr payload with
  | case1 => exact absurd rfl h
  | case2 => rfl

theorem parseImage_of_odd {payload : List Byte} (h : payload.length % 2 = 1) (c : Configuration) (addr : Byte) :
    parseImage c addr payload = .unknown addr c.codes.imageData :=
  if_neg (by omega)

theorem parseWriteReg_of_length_ne {payload : List Byte} (h : payload.length ≠ 2) (c : Configuration) (addr : Byte) :
    parseWriteReg c addr payload = .unknown addr c.codes.writeReg := by
  fun_cases parseWriteReg c addr payload with
  | case1 => exact absurd rfl h
  | case2 => rfl

theorem parseReadReg_of_length_ne {payload : List Byte} (h : payload.length ≠ 3) (c : Configuration) (addr : Byte) :
    parseReadReg c addr payload = .unknown addr c.codes.readReg := by
  fun_cases parseReadReg c addr payload with
  | case1 => exact absurd rfl h
  | case2 => rfl

/-! ### The samples of an image -/

/-- Two bytes make a sample, a byte left over makes none. -/
theorem bytesSamples_length (e : WireEndian) : ∀ bs : List Byte, (bytesSamples e bs).length = bs.length / 2
  | [] => rfl
  | [_] => by simp only [bytesSamples, List.length_nil, List.length_singleton, Nat.reduceDiv]
  | _ :: _ :: bs => by
    simp only [bytesSamples, List.length_cons, bytesSamples_length e bs]
    omega

/-- Sample `k` is assembled from the bytes at `2 * k` and the next (R175). -/
theorem getElem?_bytesSamples (e : WireEndian) {bs : List Byte} {k : Nat} (hk : k < (bytesSamples e bs).length) :
    (bytesSamples e bs)[k]? = some (dec16 e (byteAt bs (2 * k)) (byteAt bs (2 * k + 1))) := by
  fun_induction bytesSamples e bs generalizing k with
  | case1 b0 b1 bs ih =>
    cases k with
    | zero => rfl
    | succ k => exact ih (Nat.lt_of_succ_lt_succ hk)
  | case2 bs hshort => exact absurd hk (Nat.not_lt_zero k)

/-! ### The dispatch -/

/-- Under distinct codes each code reaches its own parser (R172). -/
theorem dispatch_of_distinct {c : Configuration} (h : c.codes.distinct = true) (addr : Byte) (payload : List Byte) :
    dispatch c addr c.codes.ack payload = parseAck c.endian addr payload
      ∧ dispatch c addr c.codes.formatSet payload = parseFormatSet c addr payload
      ∧ dispatch c addr c.codes.imageData payload = parseImage c addr payload
      ∧ dispatch c addr c.codes.writeReg payload = parseWriteReg c addr payload
      ∧ dispatch c addr c.codes.readReg payload = parseReadReg c addr payload := by
  obtain ⟨hack, hformat, himage, hwrite, hread⟩ := commandKind_of_distinct h
  simp only [dispatch, hack, hformat, himage, hwrite, hread, and_self]

theorem dispatch_unknown {c : Configuration} {cmd : Byte} (h : commandKind c.codes cmd = .unknown) (addr : Byte)
    (payload : List Byte) : dispatch c addr cmd payload = .unknown addr cmd := by
  simp only [dispatch, h]

/-- Settles O32: the command byte selects the parser, and each parser goes by the size of the payload. -/
theorem dispatchByCommand : Obligations.DispatchByCommand := by
  intro c addr payload hdistinct
  obtain ⟨hack, hformat, himage, hwrite, hread⟩ := dispatch_of_distinct hdistinct addr payload
  rw [hack, hformat, himage, hwrite, hread]
  refine ⟨?ack, ?formatSet, fun hsize => parseFormatSet_of_length_ne hsize c addr, fun heven => ?image,
    fun hodd => parseImage_of_odd hodd c addr, ?writeReg, fun hsize => parseWriteReg_of_length_ne hsize c addr, ?readReg,
    fun hsize => parseReadReg_of_length_ne hsize c addr,
    fun cmd hnoAck hnoFormat hnoImage hnoWrite hnoRead =>
      dispatch_unknown (commandKind_unknown hnoAck hnoFormat hnoImage hnoWrite hnoRead) addr payload⟩
  case ack => exact parseAck_view c.endian addr payload
  case formatSet => rintro fmt w0 w1 h0 h1 rfl; rfl
  case image =>
    refine ⟨bytesSamples c.endian payload, ?_, fun k hk => getElem?_bytesSamples c.endian hk, if_pos heven⟩
    rw [bytesSamples_length]
    omega
  case writeReg => rintro x y rfl; rfl
  case readReg => rintro s0 s1 x rfl; rfl

end Sys2Proof.Machine
end

section
/-! SUPPORT. Refusals (60_exceptions.md R233): a step refuses before it has done anything, and inside a composite's frame no step
refuses, so a refusal is always the whole of what an operation did. -/

namespace Sys2Proof.Machine

/-- If the state `t` that an operation left from `s` shows a refusal, the refusal is all that happened. -/
def RefusesInPlace (s t : State) : Prop :=
  ∀ r, t.result = some (.refused r) → t = s.refusing r

/-- To return from an unchanged state, with whatever outcome, satisfies R233. -/
theorem returning_refusesInPlace (s : State) (o : Returned) : RefusesInPlace s (s.returning o) := by
  rintro r ⟨⟩
  rfl

/-! ### The operations of the CRC port -/

theorem exec_crcBlock_refusesInPlace {s t : State} {bs : List Byte} (h : exec (.crcBlock bs) s = .next t) :
    RefusesInPlace s t := by
  cases hvalid : s.crcValid with
  | false =>
    obtain rfl := Host.Outcome.next.inj ((exec_crcBlock_of_not_loaded hvalid bs).symm.trans h)
    exact returning_refusesInPlace s (.refused .crcNotLoaded)
  | true =>
    obtain rfl := Host.Outcome.next.inj ((exec_crcBlock_of_loaded hvalid bs).symm.trans h)
    exact nofun

theorem exec_crcRead_refusesInPlace {s t : State} (h : exec .crcRead s = .next t) : RefusesInPlace s t := by
  cases hvalid : s.crcValid with
  | false =>
    obtain rfl := Host.Outcome.next.inj ((exec_crcRead_of_not_loaded hvalid).symm.trans h)
    exact returning_refusesInPlace s (.refused .crcNotLoaded)
  | true =>
    obtain rfl := Host.Outcome.next.inj ((exec_crcRead_of_loaded hvalid).symm.trans h)
    exact nofun

/-! ### The primitive steps of the encoder -/

theorem txBegin_refusesInPlace (addr cmd : Byte) (plen : Nat) (s : State) : RefusesInPlace s (txBegin addr cmd plen s) := by
  rcases txBegin_cases addr cmd plen s with ⟨-, h⟩ | ⟨-, -, h⟩ | ⟨-, -, -, h⟩ | ⟨-, -, -, h⟩ <;> rw [h]
  case inl => exact returning_refusesInPlace s (.refused .txBusy)
  case inr.inl => exact returning_refusesInPlace s (.refused .txLengthOverflow)
  all_goals exact nofun

theorem txChunk_refusesInPlace (bs : List Byte) (s : State) : RefusesInPlace s (txChunk bs s) := by
  rcases txChunk_cases bs s with ⟨-, h⟩ | ⟨-, -, h⟩ | ⟨-, -, -, h⟩ | ⟨-, -, -, h⟩ <;> rw [h]
  case inl => exact returning_refusesInPlace s (.refused .txNotOpen)
  case inr.inl => exact returning_refusesInPlace s (.refused .txOverrun)
  all_goals exact nofun

theorem txEnd_refusesInPlace (s : State) : RefusesInPlace s (txEnd s) := by
  rcases txEnd_cases s with ⟨-, h⟩ | ⟨-, -, h⟩ | ⟨-, -, -, h⟩ | ⟨-, -, -, h⟩ <;> rw [h]
  case inl => exact returning_refusesInPlace s (.refused .txNotOpen)
  case inr.inl => exact returning_refusesInPlace s (.refused .txUnderrun)
  all_goals exact nofun

/-! ### Inside a composite's frame -/

/-- A frame is open that still lacks `n` bytes of payload. -/
def FrameLacks (n : Nat) (t : State) : Prop :=
  t.txState = .payload ∧ t.txRemain.toNat = n

/-- A step of a composite returned Ok and left `P`, or it has not returned (R247): it did not refuse. -/
def OkOrHangs (P : State → Prop) (t : State) : Prop :=
  (t.result = some .ok ∧ P t) ∨ t.result = none

theorem OkOrHangs.refusesInPlace {P : State → Prop} {t : State} (h : OkOrHangs P t) (s : State) : RefusesInPlace s t := by
  intro r hrefused
  rcases h with ⟨hok, -⟩ | hnone
  · exact absurd (hok.symm.trans hrefused) nofun
  · exact absurd (hnone.symm.trans hrefused) nofun

/-- A composite whose steps do not refuse does not refuse. -/
theorem OkOrHangs.andThen {P Q : State → Prop} {t : State} {f : State → State} (h : OkOrHangs P t)
    (hstep : ∀ u, u.result = some .ok → P u → OkOrHangs Q (f u)) : OkOrHangs Q (t.andThen f) := by
  rcases h with ⟨hok, hP⟩ | hnone
  · rw [andThen_of_ok hok]
    exact hstep t hok hP
  · rw [andThen_of_not_ok (by simp [hnone])]
    exact .inr hnone

theorem txBegin_okOrHangs {s : State} {plen : Nat} (hidle : s.txState = .idle) (hfits : frameLength plen ≤ maxLength)
    (addr cmd : Byte) : OkOrHangs (FrameLacks plen) (txBegin addr cmd plen s) := by
  rcases txBegin_cases addr cmd plen s with ⟨hopen, -⟩ | ⟨-, hlong, -⟩ | ⟨-, -, -, h⟩ | ⟨-, -, -, h⟩
  · exact absurd (hidle.symm.trans hopen) nofun
  · exact absurd hfits (Nat.not_le_of_lt hlong)
  · rw [h]
    exact .inl ⟨rfl, rfl, remain_ofNat hfits⟩
  · rw [h]
    exact .inr rfl

/-- A chunk that the open frame lacks is not refused; the rest of the payload is still lacking. -/
theorem txChunk_okOrHangs {s : State} {bs : List Byte} {n : Nat} (h : FrameLacks (bs.length + n) s) :
    OkOrHangs (FrameLacks n) (txChunk bs s) := by
  obtain ⟨hopen, hremain⟩ := h
  have hfits : bs.length ≤ s.txRemain.toNat := by omega
  rcases txChunk_cases bs s with ⟨hidle, -⟩ | ⟨-, hlong, -⟩ | ⟨-, -, -, h⟩ | ⟨-, -, -, h⟩
  · exact absurd (hidle.symm.trans hopen) nofun
  · exact absurd hfits (Nat.not_le_of_lt hlong)
  · rw [h]
    refine .inl ⟨rfl, hopen, (remain_sub hfits).trans ?_⟩
    omega
  · rw [h]
    exact .inr rfl

theorem txEnd_okOrHangs {s : State} (h : FrameLacks 0 s) : OkOrHangs (fun _ => True) (txEnd s) := by
  obtain ⟨hopen, hremain⟩ := h
  rcases txEnd_cases s with ⟨hidle, -⟩ | ⟨-, hne, -⟩ | ⟨-, -, -, h⟩ | ⟨-, -, -, h⟩
  · exact absurd (hidle.symm.trans hopen) nofun
  · exact absurd (BitVec.eq_of_toNat_eq hremain) hne
  · rw [h]
    exact .inl ⟨rfl, trivial⟩
  · rw [h]
    exact .inr rfl

theorem imageChunk_okOrHangs {height n : Nat} {s : State} (h : FrameLacks (2 * height + n) s) :
    OkOrHangs (FrameLacks n) (imageChunk height s) := by
  rcases imageChunk_cases height s with ⟨-, hchunk⟩ | ⟨-, hchunk⟩ <;> rw [hchunk]
  · exact .inr rfl
  · exact txChunk_okOrHangs (by rwa [readBytes_length])

/-- The loop of TX_IMAGE sends what the frame lacks, scanline by scanline (R144). -/
theorem imageChunks_okOrHangs {height n : Nat} {s : State} (hok : s.result = some .ok) (h : FrameLacks (n * (2 * height)) s) :
    OkOrHangs (FrameLacks 0) (imageChunks height n s) := by
  induction n generalizing s with
  | zero => exact .inl ⟨hok, by rwa [Nat.zero_mul] at h⟩
  | succ n ih =>
    rw [Nat.succ_mul, Nat.add_comm] at h
    exact (imageChunk_okOrHangs h).andThen fun _ => ih

/-! ### The composites -/

/-- Once TX_BEGIN's tests are passed, TX_FRAME sends the payload its header declares, whole (R119). -/
theorem txFrame_okOrHangs {s : State} {payload : List Byte} (hidle : s.txState = .idle)
    (hfits : frameLength payload.length ≤ maxLength) (addr cmd : Byte) :
    OkOrHangs (fun _ => True) (txFrame addr cmd payload s) :=
  have hsent := (txBegin_okOrHangs hidle hfits addr cmd).andThen fun _ _ => txChunk_okOrHangs (bs := payload) (n := 0)
  hsent.andThen fun _ _ => txEnd_okOrHangs

theorem txFrame_refusesInPlace (addr cmd : Byte) (payload : List Byte) (s : State) :
    RefusesInPlace s (txFrame addr cmd payload s) := by
  cases hstate : s.txState with
  | payload =>
    rw [txFrame_of_begin_refused (txBegin_of_open hstate addr cmd payload.length)]
    exact returning_refusesInPlace s (.refused .txBusy)
  | idle =>
    rcases Nat.lt_or_ge maxLength (frameLength payload.length) with hlong | hfits
    · rw [txFrame_of_begin_refused (txBegin_of_overflow hstate hlong addr cmd)]
      exact returning_refusesInPlace s (.refused .txLengthOverflow)
    · exact (txFrame_okOrHangs hstate hfits addr cmd).refusesInPlace s

/-- Past its tests TX_IMAGE sends the scanlines its header declares, and the signal refuses nothing (R141). -/
theorem txImage_okOrHangs {s : State} {width height : Half} (hready : s.captureReady = true) (hidle : s.txState = .idle)
    (hfits : frameLength (width.toNat * height.toNat * 2) ≤ maxLength) (hchunk : 2 * height.toNat ≤ s.cfg.chunkMax)
    (addr : Byte) : OkOrHangs (fun _ => True) (txImage addr width height s) := by
  have hlines : width.toNat * height.toNat * 2 = width.toNat * (2 * height.toNat) := by ring
  have hbegun := txBegin_okOrHangs hidle hfits addr s.cfg.codes.imageData
  have hsent := hbegun.andThen fun _ hok hlacks => imageChunks_okOrHangs hok (hlines ▸ hlacks)
  have hended := hsent.andThen fun _ _ => txEnd_okOrHangs
  rw [txImage_of_accepted hready hidle hfits hchunk]
  exact hended.andThen fun _ hok _ => .inl ⟨hok, trivial⟩

theorem txImage_refusesInPlace (addr : Byte) (width height : Half) (s : State) :
    RefusesInPlace s (txImage addr width height s) := by
  rcases txImage_cases addr width height s with ⟨o, -, h⟩ | ⟨hready, hidle, hfits, hchunk⟩
  · rw [h]
    exact returning_refusesInPlace s o
  · exact (txImage_okOrHangs hready hidle hfits hchunk addr).refusesInPlace s

/-- Settles O60: operation by operation; RX_DECODE, RX_PROCESS and CRC_LOAD return no refusal at all. -/
theorem refusedOperationChangesNothing : Obligations.RefusedOperationChangesNothing := by
  intro i s t r hoperation hissuer hexec
  suffices hplace : RefusesInPlace s t from hplace r
  cases i with
  | crcByte b => exact exec_crcBlock_refusesInPlace ((exec_crcByte_eq_crcBlock b s).symm.trans hexec)
  | crcBlock bs => exact exec_crcBlock_refusesInPlace hexec
  | crcRead => exact exec_crcRead_refusesInPlace hexec
  | txBegin addr cmd plen => cases hexec; exact txBegin_refusesInPlace addr cmd plen s
  | txChunk bs => cases hexec; exact txChunk_refusesInPlace bs s
  | txEnd => cases hexec; exact txEnd_refusesInPlace s
  | txFrame addr cmd payload => cases hexec; exact txFrame_refusesInPlace addr cmd payload s
  | txAck => cases hexec; exact txFrame_refusesInPlace _ _ _ s
  | txFormatSet => cases hexec; exact txFrame_refusesInPlace _ _ _ s
  | txImage addr width height => cases hexec; exact txImage_refusesInPlace addr width height s
  | crcLoad | rxDecode | rxProcess => cases hexec; exact nofun
  | rxByte | rxBoundary | reset => exact nomatch hissuer
  | ack | formatSet | imageData | writeRegister | readRegister | unknown => exact nomatch hoperation

end Sys2Proof.Machine
end

section
/-! SUPPORT. A frame fed into an empty channel, the header read back off the buffered bytes, and the byte that comes too late
(43_receive_and_decode.md R160, R166; 70_reset_and_hazards.md R271). -/

namespace Sys2Proof.Machine

/-! ### A fed sequence -/

/-- `RX_FEED` into an empty channel with room leaves the bytes buffered, in arrival order, and announced (R77, R160, R161). -/
theorem rxFeed_buffered {s : State} {bs : List Byte} (hwf : s.rxBuf.wf = true) (hempty : s.rxCount = 0)
    (hfits : bs.length ≤ s.cfg.rxBufSize.val) :
    ∃ t, runAll (rxFeed bs) s = .next t ∧ t.cfg = s.cfg ∧ t.rxReady = true ∧ t.rxOvf = s.rxOvf ∧ t.rxBuf.wf = true
      ∧ bufferedBytes t = bs := by
  obtain ⟨m, hfed, hm, hread⟩ := bytes_appended bs hwf (by omega)
  have hnone : bufferedBytes s = [] := List.eq_nil_of_length_eq_zero ((bufferedBytes_length s).trans hempty)
  rw [hnone, List.nil_append] at hread
  rw [runAll_rxFeed, hfed]
  exact ⟨_, rfl, rfl, rfl, rfl, hm, hread⟩

/-! ### The header read back -/

/-- A frame begins with its header (R60). -/
theorem frameBytes_eq_header_append (c : Configuration) (addr cmd : Byte) (payload : List Byte) :
    ∃ rest, frameBytes c addr cmd payload = header c addr cmd payload.length ++ rest :=
  ⟨_, List.append_assoc _ _ _⟩

theorem slice_header (c : Configuration) (addr cmd : Byte) (n : Nat) (rest : List Byte) :
    slice (header c addr cmd n ++ rest) 0 4 = magicBytes c.magic := rfl

/-- The length field reads back modulo the width of the field (R60, R62). -/
theorem declaredLength_header (c : Configuration) (addr cmd : Byte) (n : Nat) (rest : List Byte) :
    declaredLength c.endian (header c addr cmd n ++ rest) = frameLength n % 2 ^ 32 := by
  obtain ⟨s0, s1, s2, s3, henc⟩ := List.length_eq_four.mp (enc32_length c.endian (BitVec.ofNat 32 (frameLength n)))
  have hread : declaredLength c.endian (header c addr cmd n ++ rest) = (dec32 c.endian s0 s1 s2 s3).toNat := by
    rw [header, henc]
    rfl
  rw [hread, dec32_of_enc32_eq henc, BitVec.toNat_ofNat]

/-- Where the buffered bytes begin with a header, the magic test passes and the length field is the header's. -/
theorem header_readBack {s : State} {addr cmd : Byte} {n : Nat} {rest : List Byte}
    (h : bufferedBytes s = header s.cfg addr cmd n ++ rest) :
    10 ≤ s.rxCount ∧ MagicHolds s ∧ lengthField s = frameLength n % 2 ^ 32 := by
  have hcount : 10 ≤ s.rxCount := by
    rw [← bufferedBytes_length, h, List.length_append, header_length]
    exact Nat.le_add_right 10 rest.length
  refine ⟨hcount, (slice_bufferedBytes_eq_magicBytes_iff hcount).mp ?magic, ?length⟩
  case magic => rw [h, slice_header]
  case length => rw [← declaredLength_bufferedBytes hcount, h, declaredLength_header]

/-! ### The late byte -/

@[simp] theorem rxByte_cfg (b : Byte) (s : State) : (rxByte b s).cfg = s.cfg := by
  rcases rxByte_cases b s with ⟨-, h⟩ | ⟨-, h⟩ <;> rw [h] <;> rfl

@[simp] theorem rxByte_rxReady (b : Byte) (s : State) : (rxByte b s).rxReady = s.rxReady := by
  rcases rxByte_cases b s with ⟨-, h⟩ | ⟨-, h⟩ <;> rw [h] <;> rfl

/-- A byte leaves what is buffered in front; either it lengthens it or it is lost and the overflow marked (R160). -/
theorem rxByte_lengthens_or_overflows {s : State} (hwf : s.rxBuf.wf = true) (b : Byte) :
    ∃ rest, bufferedBytes (rxByte b s) = bufferedBytes s ++ rest
      ∧ (s.rxCount < (rxByte b s).rxCount ∨ (rxByte b s).rxOvf = true) := by
  rcases rxByte_cases b s with ⟨-, h⟩ | ⟨-, h⟩ <;> rw [h]
  · exact ⟨[b], bufferedBytes_storeRx hwf b, .inl (Nat.lt_succ_self s.rxCount)⟩
  · exact ⟨[], (List.append_nil _).symm, .inr rfl⟩

/-- Behind a whole frame one more byte keeps the magic right and makes the length wrong (R271): the field declares no more
than the frame's own bytes. -/
theorem lateByte_breaks_length {s : State} {addr cmd : Byte} {payload : List Byte} (hwf : s.rxBuf.wf = true)
    (hframe : bufferedBytes s = frameBytes s.cfg addr cmd payload) (b : Byte) :
    10 ≤ (rxByte b s).rxCount ∧ MagicHolds (rxByte b s) ∧ ¬ LengthHolds (rxByte b s) := by
  obtain ⟨tail, htail⟩ := frameBytes_eq_header_append s.cfg addr cmd payload
  obtain ⟨late, hlate, hspoilt⟩ := rxByte_lengthens_or_overflows hwf b
  rw [hframe, htail, List.append_assoc, ← rxByte_cfg b s] at hlate
  obtain ⟨hcount, hmagic, hfield⟩ := header_readBack hlate
  refine ⟨hcount, hmagic, fun ⟨hlength, _, hnoOverflow⟩ => ?_⟩
  have hwhole : s.rxCount = frameLength payload.length := by
    rw [← bufferedBytes_length, hframe, frameBytes_length]
  have hdeclared : lengthField (rxByte b s) ≤ s.rxCount := hfield ▸ hwhole ▸ Nat.mod_le _ _
  rcases hspoilt with hlonger | hoverflow
  · exact absurd hdeclared (Nat.not_le_of_lt (hlength ▸ hlonger))
  · exact absurd (hnoOverflow.symm.trans hoverflow) nofun

/-- Settles O35: the fed frame is buffered whole, the late byte breaks its length, and RX_DECODE's length test discards it. -/
theorem lateByteLosesTheFrame : Obligations.LateByteLosesTheFrame := by
  intro s addr cmd b payload hwf hempty hfits
  rw [← frameBytes_length s.cfg addr cmd payload] at hfits
  obtain ⟨t, hfed, hcfg, hready, _, hwf', hbuffered⟩ := rxFeed_buffered hwf hempty hfits
  obtain ⟨hcount, hmagic, hlength⟩ := lateByte_breaks_length hwf' (hcfg ▸ hbuffered) b
  have hdecode : exec .rxDecode (rxByte b t) = .next (clearedWith (rxByte b t) .lengthMismatch) :=
    rxDecodeLengthMismatch _ ((rxByte_rxReady b t).trans hready) hcount hmagic (not_lengthHolds_iff.mp hlength)
  refine ⟨clearedWith (rxByte b t) .lengthMismatch, ?_, rfl, rfl, rfl, rfl⟩
  calc runAll (rxFeed (frameBytes s.cfg addr cmd payload) ++ [.rxByte b, .rxDecode]) s
    _ = runAll [.rxByte b, .rxDecode] t := runAll_append hfed
    _ = exec .rxDecode (rxByte b t) := runAll_singleton .rxDecode (rxByte b t)
    _ = .next (clearedWith (rxByte b t) .lengthMismatch) := hdecode

end Sys2Proof.Machine
end

section
/-! SUPPORT. The encoder against the decoder: the row of R75 an operation is written in, and the command byte of a wire command
(30_encoding.md R75, R76; 43_receive_and_decode.md R172). -/

namespace Sys2Proof

/-! ### Operations -/

/-- An operation is written as its row of R75: the select code and operand bytes that stand for it. -/
theorem encode_operation (codes : CommandCodes) {i : Instr} (h : i.isOperation = true) :
    ∃ sel ops, encode codes i = .operation (sel :: ops) ∧ SelectsOperation sel ops i := by
  cases i with
  | crcLoad seed =>
    have row := SelectsOperation.crcLoad (hiByte seed) (loByte seed)
    rw [Machine.joinBytes_hi_lo] at row
    exact ⟨_, _, rfl, row⟩
  | crcByte b => exact ⟨_, _, rfl, .crcByte b⟩
  | crcBlock bs => exact ⟨_, _, rfl, .crcBlock bs⟩
  | crcRead => exact ⟨_, _, rfl, .crcRead⟩
  | txBegin addr cmd plen =>
    have row := SelectsOperation.txBegin addr cmd (bytesOfNat plen)
    rw [Machine.natOfBytes_bytesOfNat] at row
    exact ⟨_, _, rfl, row⟩
  | txChunk bs => exact ⟨_, _, rfl, .txChunk bs⟩
  | txEnd => exact ⟨_, _, rfl, .txEnd⟩
  | txFrame addr cmd payload => exact ⟨_, _, rfl, .txFrame addr cmd payload⟩
  | txAck addr status seq value =>
    have row := SelectsOperation.txAck addr status (hiByte seq) (loByte seq) value
    rw [Machine.joinBytes_hi_lo] at row
    exact ⟨_, _, rfl, row⟩
  | txFormatSet addr fmt width height =>
    have row := SelectsOperation.txFormatSet addr fmt (hiByte width) (loByte width) (hiByte height) (loByte height)
    rw [Machine.joinBytes_hi_lo, Machine.joinBytes_hi_lo] at row
    exact ⟨_, _, rfl, row⟩
  | txImage addr width height =>
    have row := SelectsOperation.txImage addr (hiByte width) (loByte width) (hiByte height) (loByte height)
    rw [Machine.joinBytes_hi_lo, Machine.joinBytes_hi_lo] at row
    exact ⟨_, _, rfl, row⟩
  | rxByte b => exact ⟨_, _, rfl, .rxByte b⟩
  | rxBoundary => exact ⟨_, _, rfl, .rxBoundary⟩
  | rxDecode => exact ⟨_, _, rfl, .rxDecode⟩
  | rxProcess => exact ⟨_, _, rfl, .rxProcess⟩
  | reset => exact ⟨_, _, rfl, .reset⟩
  | ack | formatSet | imageData | writeRegister | readRegister | unknown => exact nomatch h

theorem decode_encode_operation (codes : CommandCodes) {i : Instr} (h : i.isOperation = true) :
    decode codes (encode codes i) = .ok i := by
  obtain ⟨sel, ops, hwritten, hrow⟩ := encode_operation codes h
  rw [hwritten]
  exact decodeSelected_eq_ok_iff.mpr hrow

/-- The row of an operation is what the encoder writes for it, except for the digits of TX_BEGIN's count (R75). -/
theorem SelectsOperation.encode_eq {sel : Byte} {ops : List Byte} {i : Instr} (h : SelectsOperation sel ops i)
    (hnotBegin : ∀ addr cmd plen, i ≠ .txBegin addr cmd plen) (codes : CommandCodes) :
    encode codes i = .operation (sel :: ops) := by
  cases h with
  | txBegin addr cmd digits => exact absurd rfl (hnotBegin addr cmd (natOfBytes digits))
  | crcLoad | txAck | txFormatSet | txImage =>
    simp only [encode, selectByte, operandBytes, Machine.hiByte_joinBytes, Machine.loByte_joinBytes, List.cons_append,
      List.nil_append]
  | crcByte | crcBlock | crcRead | txChunk | txEnd | txFrame | rxByte | rxBoundary | rxDecode | rxProcess | reset => rfl

/-! ### Wire commands -/

/-- The command byte of a well-formed wire command selects it under distinct codes (R6, R172, R181). -/
theorem decode_encode_command {codes : CommandCodes} {i : Instr} (hdistinct : codes.distinct = true)
    (hformed : wellFormed codes i = true) (h : i.isOperation = false) : decode codes (encode codes i) = .ok i := by
  obtain ⟨hack, hformat, himage, hwrite, hread⟩ := commandKind_of_distinct hdistinct
  cases i with
  | ack => simp only [decode, encode, selectByte, decodeFrame, hack]
  | formatSet => simp only [decode, encode, selectByte, decodeFrame, hformat]
  | imageData => simp only [decode, encode, selectByte, decodeFrame, himage]
  | writeRegister => simp only [decode, encode, selectByte, decodeFrame, hwrite]
  | readRegister => simp only [decode, encode, selectByte, decodeFrame, hread]
  | unknown addr cmd payload =>
    simp only [wellFormed, CommandCodes.unassigned, Bool.and_eq_true, bne_iff_ne] at hformed
    obtain ⟨-, ⟨⟨⟨hnoAck, hnoFormat⟩, hnoImage⟩, hnoWrite⟩, hnoRead⟩ := hformed
    simp only [decode, encode, selectByte, decodeFrame, commandKind_unknown hnoAck hnoFormat hnoImage hnoWrite hnoRead]
  | crcLoad | crcByte | crcBlock | crcRead | txBegin | txChunk | txEnd | txFrame | txAck | txFormatSet | txImage | rxByte
  | rxBoundary | rxDecode | rxProcess | reset => exact nomatch h

/-- Settles O5: an operation decodes by its row, a wire command by its command byte. -/
theorem decodeEncode : Obligations.DecodeEncode := by
  intro codes i hdistinct hformed
  cases h : i.isOperation with
  | true => exact decode_encode_operation codes h
  | false => exact decode_encode_command hdistinct hformed h

/-- Settles O6: what decodes is a row of R75, and the encoder writes that row. -/
theorem decodedRequestReencodes : Obligations.DecodedRequestReencodes := by
  intro codes bytes i hdecode hnotBegin
  cases bytes with
  | nil => exact nomatch hdecode
  | cons sel ops => exact (decodeSelected_eq_ok_iff.mp hdecode).encode_eq hnotBegin codes

/-- Settles O3: each operation is its row of R75; the two frames are decided by the default codes. -/
theorem sampleWordsDecode : Obligations.SampleWordsDecode :=
  ⟨decodeSelected_eq_ok_iff.mpr (.crcLoad 0xFF 0xFE), decodeSelected_eq_ok_iff.mpr (.crcBlock [0x31, 0x32]),
    decodeSelected_eq_ok_iff.mpr (.txBegin 0x01 0x02 [0x08]),
    decodeSelected_eq_ok_iff.mpr (.txAck 0x01 0x00 0xBE 0xEF 0x34),
    decodeSelected_eq_ok_iff.mpr (.txImage 0x01 0x00 0x02 0x00 0x03), decodeSelected_eq_ok_iff.mpr (.rxByte 0xA1),
    decodeSelected_eq_ok_iff.mpr .reset, by decide, by decide⟩

end Sys2Proof
end

section
/-! SUPPORT. The algebra of the CRC function: every iteration is linear over exclusive-or and loses nothing, so the CRC is linear,
and a changed bit shows (40_crc_engine.md section 2). -/

namespace Sys2Proof.Machine

/-! ### Linearity -/

theorem crcShift_xor (a c : Half) : crcShift (a ^^^ c) = crcShift a ^^^ crcShift c := by
  apply BitVec.eq_of_getLsbD_eq
  intro k hk
  simp only [getLsbD_crcShift _ hk, BitVec.getLsbD_xor, Bool.and_xor_distrib_left, Bool.and_xor_distrib_right,
    Bool.xor_assoc, Bool.xor_left_comm]

theorem crcShifts_xor (n : Nat) (a c : Half) : crcShifts n (a ^^^ c) = crcShifts n a ^^^ crcShifts n c := by
  induction n with
  | zero => rfl
  | succ n ih => simp only [crcShifts_succ, ih, crcShift_xor]

theorem crc16Byte_xor (acc acc' : Half) (b b' : Byte) :
    crc16Byte (acc ^^^ acc') (b ^^^ b') = crc16Byte acc b ^^^ crc16Byte acc' b' := by
  have hentered : acc ^^^ acc' ^^^ (b ^^^ b').setWidth 16 = (acc ^^^ b.setWidth 16) ^^^ (acc' ^^^ b'.setWidth 16) := by
    rw [BitVec.setWidth_xor]
    ac_rfl
  rw [crc16Byte, hentered, crcShifts_xor]
  rfl

/-- The CRC is linear over exclusive-or for sequences of one length (fact c). -/
theorem crc16Update_xorBytes (acc acc' : Half) {s t : List Byte} (h : s.length = t.length) :
    crc16Update (acc ^^^ acc') (xorBytes s t) = crc16Update acc s ^^^ crc16Update acc' t := by
  induction s generalizing t acc acc' with
  | nil =>
    obtain rfl := List.eq_nil_of_length_eq_zero h.symm
    rfl
  | cons b s ih =>
    obtain ⟨b', t, rfl⟩ := List.exists_cons_of_length_eq_add_one h.symm
    have hrest := ih (crc16Byte acc b) (crc16Byte acc' b') (Nat.succ.inj h)
    rwa [← crc16Byte_xor] at hrest

/-! ### Injectivity -/

/-- The bit shifted out shows at bit 15, and with it known the others can be read back. -/
theorem crcShift_injective : Function.Injective crcShift := by
  intro a c h
  have hbit : ∀ k < 16, ((decide (k < 15) && a.getLsbD (k + 1)) ^^ (a.getLsbD 0 && (k == 0 || k == 13 || k == 15)))
      = ((decide (k < 15) && c.getLsbD (k + 1)) ^^ (c.getLsbD 0 && (k == 0 || k == 13 || k == 15))) := fun k hk => by
    rw [← getLsbD_crcShift a hk, ← getLsbD_crcShift c hk, h]
  have hout : a.getLsbD 0 = c.getLsbD 0 := by simpa using hbit 15 (by decide)
  apply BitVec.eq_of_getLsbD_eq
  rintro (_ | k) hk
  · exact hout
  · have hk15 : k < 15 := by omega
    have hrest := hbit k (by omega)
    rw [hout] at hrest
    simpa [hk15] using hrest

theorem crcShifts_injective (n : Nat) : Function.Injective (crcShifts n) := by
  induction n with
  | zero => exact Function.injective_id
  | succ n ih => exact ih.comp crcShift_injective

theorem crc16Byte_left_injective (b : Byte) : Function.Injective fun acc => crc16Byte acc b := by
  intro acc acc' h
  exact (BitVec.xor_left_inj _).mp (crcShifts_injective 8 h)

theorem crc16Byte_right_injective (acc : Half) : Function.Injective fun b => crc16Byte acc b := by
  intro b b' h
  have hwide : b.setWidth 16 = b'.setWidth 16 := (BitVec.xor_right_inj _).mp (crcShifts_injective 8 h)
  have hnarrow := congrArg (BitVec.setWidth 8) hwide
  simpa [BitVec.setWidth_setWidth_of_le] using hnarrow

/-- What differed before a sequence differs after it. -/
theorem crc16Update_injective (bs : List Byte) : Function.Injective fun acc => crc16Update acc bs := by
  induction bs with
  | nil => exact Function.injective_id
  | cons b bs ih => exact ih.comp (crc16Byte_left_injective b)

/-! ### The table form -/

/-- As long as zeros are shifted out nothing is exclusive-ored in. -/
theorem crcShifts_of_low_zero {n : Nat} {a : Half} (h : ∀ i < n, a.getLsbD i = false) : crcShifts n a = a >>> n := by
  induction n generalizing a with
  | zero => exact (BitVec.ushiftRight_zero a).symm
  | succ n ih =>
    have hfirst : crcShift a = a >>> 1 := if_neg (by rw [h 0 (Nat.succ_pos n)]; exact Bool.false_ne_true)
    have hrest : ∀ i < n, (a >>> 1).getLsbD i = false := fun i hi => by
      rw [BitVec.getLsbD_ushiftRight, h (1 + i) (by omega)]
    rw [crcShifts, hfirst, ih hrest, ← BitVec.shiftRight_add, Nat.add_comm]

/-- The byte step splits into the high byte, which only moves down, and the table entry of the low one (fact a). -/
theorem crc16Byte_table (acc : Half) (b : Byte) :
    crc16Byte acc b = (acc >>> 8) ^^^ crc16Byte 0 ((acc ^^^ b.setWidth 16).setWidth 8) := by
  generalize hx : acc ^^^ b.setWidth 16 = x
  generalize hlow : (x.setWidth 8).setWidth 16 = low
  have hlowBit : ∀ i, low.getLsbD i = (decide (i < 8) && x.getLsbD i) := by
    intro i
    by_cases hi : i < 8
    · simp [← hlow, hi, Nat.lt_trans hi (by decide : 8 < 16)]
    · simp [← hlow, BitVec.getLsbD_setWidth, hi]
  have hhigh : crcShifts 8 (x ^^^ low) = acc >>> 8 := by
    rw [crcShifts_of_low_zero (n := 8) fun i hi => by simp [hlowBit, hi]]
    apply BitVec.eq_of_getLsbD_eq
    intro i _
    simp [BitVec.getLsbD_ushiftRight, hlowBit, ← hx, BitVec.getLsbD_setWidth]
  have hzero : (0 : Half) ^^^ low = low := BitVec.zero_xor
  calc crc16Byte acc b
    _ = crcShifts 8 ((x ^^^ low) ^^^ low) := by rw [BitVec.xor_assoc, BitVec.xor_self, BitVec.xor_zero, ← hx, crc16Byte]
    _ = crcShifts 8 (x ^^^ low) ^^^ crcShifts 8 low := crcShifts_xor 8 (x ^^^ low) low
    _ = (acc >>> 8) ^^^ crc16Byte 0 (x.setWidth 8) := by rw [hhigh, crc16Byte, hlow, hzero]

/-- Settles O13: the table form, the injectivity of the iterations (a finite type's injections are bijections), linearity. -/
theorem crcAlgebra : Obligations.CrcAlgebra :=
  ⟨crc16Byte_table, fun b => Finite.injective_iff_bijective.mp (crc16Byte_left_injective b), crc16Byte_right_injective,
    fun a c _ _ hlength => crc16Update_xorBytes a c hlength⟩

/-! ### One changed bit -/

/-- A byte with a bit changed is another byte. -/
theorem xor_bit_ne (b : Byte) (k : Nat) : b ^^^ ((1 : Byte) <<< (k % 8)) ≠ b := by
  have hbit : ∀ j < 8, (1 : Byte) <<< j ≠ 0 := by decide
  intro h
  exact hbit (k % 8) (Nat.mod_lt k (by decide)) ((BitVec.xor_right_inj b).mp (h.trans (BitVec.xor_zero).symm))

/-- The sequence around the changed bit. -/
theorem flipBit_split {bs : List Byte} {k : Nat} (h : k < 8 * bs.length) :
    ∃ before b rest, bs = before ++ b :: rest ∧ before.length = k / 8
      ∧ flipBit bs k = before ++ (b ^^^ ((1 : Byte) <<< (k % 8))) :: rest :=
  List.exists_of_modify _ (by omega)

/-- Settles O14: the step that takes the changed byte tells it apart, and what follows keeps the difference. -/
theorem crcDetectsOneBit : Obligations.CrcDetectsOneBit := by
  intro seed s k hk hsame
  obtain ⟨before, b, rest, rfl, -, hflipped⟩ := flipBit_split hk
  rw [hflipped, crc16Update_append, crc16Update_append] at hsame
  exact xor_bit_ne b k (crc16Byte_right_injective _ (crc16Update_injective rest hsame))

end Sys2Proof.Machine
end

section
/-! SUPPORT. From the encoder to the decoder: the fields of an encoded frame, its acceptance, and its rejection with one bit changed
(30_encoding.md R60 to R63; 41_frame_encoder.md section 4; 43_receive_and_decode.md section 5). -/

namespace Sys2Proof.Machine

/-! ### The layout of an encoded frame -/

theorem frameBytes_take_body (c : Configuration) (addr cmd : Byte) (payload : List Byte) :
    (frameBytes c addr cmd payload).take (10 + payload.length) = frameBody c addr cmd payload :=
  List.take_left' (frameBody_length c addr cmd payload)

/-- The single bytes and the payload of a frame stand at their offsets (R60). -/
theorem frameBytes_fields (c : Configuration) (addr cmd : Byte) (payload : List Byte) :
    byteAt (frameBytes c addr cmd payload) 4 = addr ∧ byteAt (frameBytes c addr cmd payload) 9 = cmd
      ∧ slice (frameBytes c addr cmd payload) 10 (10 + payload.length) = payload := by
  obtain ⟨s0, s1, s2, s3, henc⟩ := List.length_eq_four.mp (enc32_length c.endian (BitVec.ofNat 32 (frameLength payload.length)))
  refine ⟨rfl, ?cmd, ?payload⟩
  case cmd =>
    rw [frameBytes, frameBody, header, henc]
    rfl
  case payload => rw [slice, frameBytes_take_body, frameBody, List.drop_left' (header_length c addr cmd payload.length)]

/-- The length field of a frame that fits it counts the whole frame (R61). -/
theorem declaredLength_frameBytes {payload : List Byte} (hfits : frameLength payload.length ≤ maxLength) (c : Configuration)
    (addr cmd : Byte) :
    declaredLength c.endian (frameBytes c addr cmd payload) = (frameBytes c addr cmd payload).length := by
  obtain ⟨rest, hframe⟩ := frameBytes_eq_header_append c addr cmd payload
  have hwidth : frameLength payload.length < 2 ^ 32 := Nat.lt_succ_of_le hfits
  rw [frameBytes_length, hframe, declaredLength_header, Nat.mod_eq_of_lt hwidth]

/-- The last two bytes of a frame are the checksum over all bytes before them (R63). -/
theorem frameBytes_checksum (c : Configuration) (addr cmd : Byte) (payload : List Byte) :
    dec16 c.endian (byteAt (frameBytes c addr cmd payload) (10 + payload.length))
        (byteAt (frameBytes c addr cmd payload) (11 + payload.length))
      = crc16Update c.crcSeed (frameBody c addr cmd payload) := by
  obtain ⟨t0, t1, henc⟩ :=
    List.length_eq_two.mp (enc16_length c.endian (crc16Update c.crcSeed (frameBody c addr cmd payload)))
  have hbody := frameBody_length c addr cmd payload
  have hfirst : byteAt (frameBytes c addr cmd payload) (10 + payload.length) = t0 := by
    simp [byteAt, frameBytes, henc, List.getD_eq_getElem?_getD, hbody]
  have hsecond : byteAt (frameBytes c addr cmd payload) (11 + payload.length) = t1 := by
    simp [byteAt, frameBytes, henc, List.getD_eq_getElem?_getD, List.getElem?_append_right, hbody, Nat.add_sub_add_right]
  rw [hfirst, hsecond, dec16_of_enc16_eq henc]

/-- Settles O8: field by field off `frameBytes`. -/
theorem frameLayout : Obligations.FrameLayout := by
  intro c addr cmd payload hlong f
  have hfits : frameLength payload.length ≤ maxLength := by simp only [frameLength, maxLength]; omega
  have hlength : f.length = payload.length + 12 :=
    (frameBytes_length c addr cmd payload).trans (by simp only [frameLength]; omega)
  have hbody : f.length - 2 = 10 + payload.length := by omega
  have hlast : f.length - 1 = 11 + payload.length := by omega
  obtain ⟨haddr, hcmd, hpayload⟩ := frameBytes_fields c addr cmd payload
  refine ⟨hlength, rfl, haddr, declaredLength_frameBytes hfits c addr cmd, hcmd, ?payload, ?checksum⟩
  case payload => rw [hbody]; exact hpayload
  case checksum =>
    rw [hbody, hlast, frameBytes_take_body]
    exact frameBytes_checksum c addr cmd payload

/-! ### The tests of the decoder on the buffered bytes -/

/-- The bytes before the checksum and the checksum, read off the buffered bytes (R167). -/
theorem checksumHolds_iff {s : State} (h : LengthHolds s) :
    ChecksumHolds s
      ↔ crc16Update s.cfg.crcSeed ((bufferedBytes s).take (s.rxCount - 2))
          = dec16 s.cfg.endian (byteAt (bufferedBytes s) (s.rxCount - 2)) (byteAt (bufferedBytes s) (s.rxCount - 1)) := by
  obtain ⟨hlength, hleast, -⟩ := h
  have htake : readBytes s.rxBuf 0 (s.rxCount - 2) = (bufferedBytes s).take (s.rxCount - 2) :=
    (slice_bufferedBytes s (Nat.zero_le _) (Nat.sub_le _ 2)).symm
  rw [ChecksumHolds, hlength, htake, byteAt_bufferedBytes (by omega), byteAt_bufferedBytes (by omega)]

/-- A buffered frame passes the tests of the magic and of the length. -/
theorem buffered_frame_length {s : State} {addr cmd : Byte} {payload : List Byte}
    (hframe : bufferedBytes s = frameBytes s.cfg addr cmd payload) (hovf : s.rxOvf = false)
    (hfits : frameLength payload.length ≤ maxLength) :
    s.rxCount = frameLength payload.length ∧ MagicHolds s ∧ LengthHolds s := by
  have hcount : s.rxCount = frameLength payload.length := by
    rw [← bufferedBytes_length, hframe, frameBytes_length]
  have hleast : 12 ≤ s.rxCount := by rw [hcount, frameLength]; omega
  have hfield : lengthField s = s.rxCount := by
    rw [← declaredLength_bufferedBytes (by omega), hframe, declaredLength_frameBytes hfits, frameBytes_length, hcount]
  obtain ⟨rest, hrest⟩ := frameBytes_eq_header_append s.cfg addr cmd payload
  obtain ⟨-, hmagic, -⟩ := header_readBack (hframe.trans hrest)
  exact ⟨hcount, hmagic, hfield, hfield ▸ hleast, hovf⟩

/-- A buffered frame is accepted with the address, command and payload it was made of (R168). -/
theorem checkBuffer_of_frame {s : State} {addr cmd : Byte} {payload : List Byte}
    (hframe : bufferedBytes s = frameBytes s.cfg addr cmd payload) (hovf : s.rxOvf = false)
    (hfits : frameLength payload.length ≤ maxLength) : checkBuffer s = .accepted addr cmd payload := by
  obtain ⟨hcount, hmagic, hlength⟩ := buffered_frame_length hframe hovf hfits
  obtain ⟨haddr, hcmd, hpayload⟩ := frameBytes_fields s.cfg addr cmd payload
  have hbody : s.rxCount - 2 = 10 + payload.length := by rw [hcount, frameLength]; omega
  have hlast : s.rxCount - 1 = 11 + payload.length := by rw [hcount, frameLength]; omega
  have hsum : ChecksumHolds s := by
    rw [checksumHolds_iff hlength, hframe, hbody, hlast, frameBytes_take_body, frameBytes_checksum]
  have hfield : lengthField s = s.rxCount := hlength.1
  refine (checkBuffer_of_lengthHolds hmagic hlength).trans ((if_neg (not_not.mpr hsum)).trans ?_)
  rw [hfield, ← byteAt_bufferedBytes (by omega), ← byteAt_bufferedBytes (by omega),
    ← Nat.sub_sub s.rxCount 2 10, ← slice_bufferedBytes s (by omega) (by omega), hframe, hbody, haddr, hcmd, hpayload]

/-- A frame that fits a receive buffer fits its length field (R5, R61). -/
theorem frame_fits_field {c : Configuration} {n : Nat} (h : frameLength n ≤ c.rxBufSize.val) : frameLength n ≤ maxLength :=
  h.trans (Nat.le_of_lt_succ c.rxBufSize.isLt)

/-- Settles O36: the fed frame is buffered whole, the check accepts it, and the attempt clears the channel. -/
theorem encodedFrameIsDispatched : Obligations.EncodedFrameIsDispatched := by
  intro s addr cmd payload hwf hempty hovf hfits
  obtain ⟨t, hfed, hcfg, hready, htovf, -, hbuffered⟩ :=
    rxFeed_buffered hwf hempty ((frameBytes_length s.cfg addr cmd payload).trans_le hfits)
  rw [← hcfg] at hbuffered
  have hcheck := checkBuffer_of_frame hbuffered (htovf.trans hovf) (frame_fits_field hfits)
  refine ⟨clearedWith t (.dispatched (dispatch t.cfg addr cmd payload)), ?run, by rw [← hcfg]; rfl, rfl, rfl, rfl⟩
  case run =>
    rw [runAll_append hfed, runAll_singleton]
    exact exec_rxDecode_of_checked hready hcheck nofun

/-! ### One changed bit -/

@[simp] theorem flipBit_length (bs : List Byte) (k : Nat) : (flipBit bs k).length = bs.length :=
  List.length_modify _ _ _

theorem take_flipBit (bs : List Byte) (n k : Nat) : (flipBit bs k).take n = flipBit (bs.take n) k :=
  List.take_modify _ _ _ _

theorem flipBit_ne {bs : List Byte} {k : Nat} (h : k < 8 * bs.length) : flipBit bs k ≠ bs := by
  obtain ⟨before, b, rest, rfl, -, hflipped⟩ := flipBit_split h
  rw [hflipped]
  intro hsame
  exact xor_bit_ne b k (List.cons.inj (List.append_cancel_left hsame)).1

/-- Past the end there is no bit to change. -/
theorem flipBit_past_end {bs : List Byte} {k : Nat} (h : 8 * bs.length ≤ k) : flipBit bs k = bs :=
  List.modify_eq_self (by omega)

theorem byteAt_flipBit_of_ne {bs : List Byte} {k i : Nat} (h : k / 8 ≠ i) : byteAt (flipBit bs k) i = byteAt bs i := by
  rw [byteAt, byteAt, List.getD_eq_getElem?_getD, List.getD_eq_getElem?_getD, flipBit, List.getElem?_modify_ne _ _ h]

theorem byteAt_flipBit_same {bs : List Byte} {k : Nat} (h : k < 8 * bs.length) :
    byteAt (flipBit bs k) (k / 8) ≠ byteAt bs (k / 8) := by
  obtain ⟨before, b, rest, rfl, hpos, hflipped⟩ := flipBit_split h
  have hat : ∀ x : Byte, byteAt (before ++ x :: rest) (k / 8) = x := fun x => by
    rw [byteAt, ← hpos, List.getD_append_right _ _ _ _ (Nat.le_refl _), Nat.sub_self, List.getD_cons_zero]
  rw [hflipped, hat, hat]
  exact xor_bit_ne b k

theorem declaredLength_congr {bs bs' : List Byte} (h : ∀ i, 5 ≤ i → i < 9 → byteAt bs i = byteAt bs' i) (e : WireEndian) :
    declaredLength e bs = declaredLength e bs' := by
  simp only [declaredLength, h 5, h 6, h 7, h 8, Nat.reduceLeDiff, Nat.reduceLT]

/-- Two length fields of one value are the same bytes (R62). -/
theorem byteAt_of_declaredLength_eq {e : WireEndian} {bs bs' : List Byte} (h : declaredLength e bs = declaredLength e bs')
    {i : Nat} (hlow : 5 ≤ i) (hhigh : i < 9) : byteAt bs i = byteAt bs' i := by
  have hbytes := congrArg (enc32 e) (BitVec.eq_of_toNat_eq h)
  simp only [enc32_dec32, List.cons.injEq, and_true] at hbytes
  obtain ⟨h5, h6, h7, h8⟩ := hbytes
  interval_cases i <;> assumption

/-- Two 16-bit fields of one value are the same bytes (R62). -/
theorem dec16_inj {e : WireEndian} {a b a' b' : Byte} (h : dec16 e a b = dec16 e a' b') : a = a' ∧ b = b' := by
  have hbytes := congrArg (enc16 e) h
  simpa only [enc16_dec16, List.cons.injEq, and_true] using hbytes

/-- What is buffered is a frame with one bit changed. -/
structure FlippedFrame (s : State) (addr cmd : Byte) (payload : List Byte) (k : Nat) : Prop where
  bytes : bufferedBytes s = flipBit (frameBytes s.cfg addr cmd payload) k
  inside : k < 8 * frameLength payload.length
  fits : frameLength payload.length ≤ maxLength
  noOverflow : s.rxOvf = false

section
variable {s : State} {addr cmd : Byte} {payload : List Byte} {k : Nat} (h : FlippedFrame s addr cmd payload k)
include h

theorem FlippedFrame.count : s.rxCount = frameLength payload.length := by
  rw [← bufferedBytes_length, h.bytes, flipBit_length, frameBytes_length]

theorem FlippedFrame.ten_le_count : 10 ≤ s.rxCount := by
  rw [h.count, frameLength]
  omega

/-- The magic test finds a change in the magic, and no other (R165). -/
theorem FlippedFrame.magicHolds_iff : MagicHolds s ↔ 32 ≤ k := by
  have hmagic : (frameBytes s.cfg addr cmd payload).take 4 = magicBytes s.cfg.magic := rfl
  have hslice : slice (bufferedBytes s) 0 4 = flipBit (magicBytes s.cfg.magic) k := by
    rw [h.bytes, ← hmagic, ← take_flipBit]
    rfl
  rw [← slice_bufferedBytes_eq_magicBytes_iff h.ten_le_count, hslice]
  constructor
  · intro hsame
    by_contra hk
    exact flipBit_ne (by rw [magicBytes_length]; omega) hsame
  · exact fun hk => flipBit_past_end hk

/-- The length test finds a change in the length field, and no other (R166). -/
theorem FlippedFrame.lengthHolds_iff : LengthHolds s ↔ ¬ (40 ≤ k ∧ k < 72) := by
  have hsize : (frameBytes s.cfg addr cmd payload).length = s.rxCount := by
    rw [frameBytes_length, h.count]
  have hfield : lengthField s = declaredLength s.cfg.endian (flipBit (frameBytes s.cfg addr cmd payload) k) := by
    rw [← h.bytes, declaredLength_bufferedBytes h.ten_le_count]
  have hdeclared := (declaredLength_frameBytes h.fits s.cfg addr cmd).trans hsize
  constructor
  · rintro ⟨hlength, -, -⟩ ⟨hlow, hhigh⟩
    have hsame := hfield.symm.trans (hlength.trans hdeclared.symm)
    exact byteAt_flipBit_same (by rw [frameBytes_length]; exact h.inside)
      (byteAt_of_declaredLength_eq hsame (i := k / 8) (by omega) (by omega))
  · intro hout
    have hkept : lengthField s = s.rxCount := by
      rw [hfield, ← hdeclared]
      exact declaredLength_congr (fun i _ _ => byteAt_flipBit_of_ne (by omega)) s.cfg.endian
    refine ⟨hkept, ?_, h.noOverflow⟩
    rw [hkept, ← hsize, frameBytes_length, frameLength]
    omega

/-- The checksum test finds a change in what it covers, for the CRC tells it, and one in itself (R167). -/
theorem FlippedFrame.not_checksumHolds (hlength : LengthHolds s) : ¬ ChecksumHolds s := by
  have hbody : s.rxCount - 2 = 10 + payload.length := by rw [h.count, frameLength]; omega
  have hlast : s.rxCount - 1 = 11 + payload.length := by rw [h.count, frameLength]; omega
  have hk := h.inside
  rw [checksumHolds_iff hlength, h.bytes, hbody, hlast, take_flipBit, frameBytes_take_body]
  have hbodyLength := frameBody_length s.cfg addr cmd payload
  have hsum := frameBytes_checksum s.cfg addr cmd payload
  rw [frameLength] at hk
  rcases Nat.lt_or_ge k (8 * (10 + payload.length)) with hcovered | hchecksum
  · rw [byteAt_flipBit_of_ne (by omega), byteAt_flipBit_of_ne (by omega), hsum]
    exact crcDetectsOneBit s.cfg.crcSeed _ k (by rwa [hbodyLength])
  · rw [flipBit_past_end (by rwa [hbodyLength]), ← hsum]
    intro hsame
    obtain ⟨hfirst, hsecond⟩ := dec16_inj hsame
    have hchanged : byteAt (flipBit (frameBytes s.cfg addr cmd payload) k) (k / 8) ≠ _ :=
      byteAt_flipBit_same (by rwa [frameBytes_length])
    have hplace : k / 8 = 10 + payload.length ∨ k / 8 = 11 + payload.length := by omega
    rcases hplace with hplace | hplace <;> rw [hplace] at hchanged
    · exact hchanged hfirst.symm
    · exact hchanged hsecond.symm

/-- The outcome goes by where the bit is; the channel is cleared. -/
theorem FlippedFrame.exec_rxDecode (hready : s.rxReady = true) :
    exec .rxDecode s = .next (clearedWith s
      (if k < 32 then .badMagic else if 40 ≤ k ∧ k < 72 then .lengthMismatch else .checksumMismatch)) := by
  by_cases hmagic : k < 32
  · rw [if_pos hmagic]
    exact rxDecodeBadMagic s hready h.ten_le_count (mt h.magicHolds_iff.mp (by omega))
  · rw [if_neg hmagic]
    have hm := h.magicHolds_iff.mpr (by omega)
    by_cases hlength : 40 ≤ k ∧ k < 72
    · rw [if_pos hlength]
      exact rxDecodeLengthMismatch s hready h.ten_le_count hm
        (not_lengthHolds_iff.mp (mt h.lengthHolds_iff.mp (not_not.mpr hlength)))
    · rw [if_neg hlength]
      have hl := h.lengthHolds_iff.mpr hlength
      exact rxDecodeChecksumMismatch s hready hm hl (h.not_checksumHolds hl)

end

/-- Settles O37: the changed frame is buffered whole, and the first test whose field holds the bit rejects it. -/
theorem oneBitErrorIsRejected : Obligations.OneBitErrorIsRejected := by
  intro s addr cmd payload k hwf hempty hovf hfits hk
  have hroom : (flipBit (frameBytes s.cfg addr cmd payload) k).length ≤ s.cfg.rxBufSize.val := by
    rwa [flipBit_length, frameBytes_length]
  obtain ⟨t, hfed, hcfg, hready, htovf, -, hbuffered⟩ := rxFeed_buffered hwf hempty hroom
  rw [← hcfg] at hbuffered
  have hflipped : FlippedFrame t addr cmd payload k := ⟨hbuffered, hk, frame_fits_field hfits, htovf.trans hovf⟩
  refine ⟨clearedWith t _, ?run, rfl, rfl, rfl, rfl⟩
  case run => rw [runAll_append hfed, runAll_singleton, hflipped.exec_rxDecode hready]

/-! ### The payloads of the commands -/

@[simp] theorem bytesSamples_samplesBytes (e : WireEndian) (qs : List Half) : bytesSamples e (samplesBytes e qs) = qs := by
  induction qs with
  | nil => rfl
  | cons q qs ih =>
    obtain ⟨q0, q1, henc⟩ := List.length_eq_two.mp (enc16_length e q)
    rw [samplesBytes, henc, List.cons_append, List.cons_append, List.nil_append, bytesSamples, ih, dec16_of_enc16_eq henc]

/-- Settles O38: each code reaches its parser, which reads the fields back. -/
theorem payloadFieldsRoundTrip : Obligations.PayloadFieldsRoundTrip := by
  intro c addr x y v w qs hdistinct
  obtain ⟨v0, v1, hv⟩ := List.length_eq_two.mp (enc16_length c.endian v)
  obtain ⟨w0, w1, hw⟩ := List.length_eq_two.mp (enc16_length c.endian w)
  have hv' := dec16_of_enc16_eq hv
  refine ⟨?formatSet, ?ack, ?image, ?writeReg, ?readReg⟩
  case formatSet =>
    obtain ⟨-, hformat, -⟩ := dispatch_of_distinct hdistinct addr (formatSetPayload c.endian x v w)
    rw [hformat, formatSetPayload, hv, hw, ← hv', ← dec16_of_enc16_eq hw]
    rfl
  case ack =>
    obtain ⟨hack, -⟩ := dispatch_of_distinct hdistinct addr (ackPayload c.endian x v y)
    rw [hack, ackPayload, hv, ← hv']
    rfl
  case image =>
    obtain ⟨-, -, himage, -⟩ := dispatch_of_distinct hdistinct addr (samplesBytes c.endian qs)
    have heven : (samplesBytes c.endian qs).length % 2 = 0 := by simp
    rw [himage, parseImage, if_pos heven, bytesSamples_samplesBytes]
  case writeReg =>
    obtain ⟨-, -, -, hwrite, -⟩ := dispatch_of_distinct hdistinct addr [x, y]
    exact hwrite
  case readReg =>
    obtain ⟨-, -, -, -, hread⟩ := dispatch_of_distinct hdistinct addr (enc16 c.endian v ++ [x])
    rw [hread, hv, ← hv']
    rfl

end Sys2Proof.Machine
end

section
/-! SUPPORT. What a step can do, said once: every turn but a RESET is a sequence of the moves below, so what each move keeps every
step keeps (10_state.md section 9). -/

namespace Sys2Proof.Machine

/-! ### Moves -/

/-- `t` differs from `s` at most in state no invariant speaks of: the CRC port, the announcement flag, outcomes, inputs, plans,
records and the agents' turns. -/
def OnlyBookkeeping (s t : State) : Prop :=
  t = { s with crcAcc := t.crcAcc, crcValid := t.crcValid, rxReady := t.rxReady, result := t.result, cfgIn := t.cfgIn,
               captureReady := t.captureReady, pixels := t.pixels, sinkHangsAt := t.sinkHangsAt, between := t.between,
               consumedSignals := t.consumedSignals, regWrites := t.regWrites, regReads := t.regReads,
               consumed := t.consumed, handshake := t.handshake, waiting := t.waiting, polls := t.polls,
               controller := t.controller, agenda := t.agenda }

/-- What a turn other than RESET is made of. -/
inductive Move : State → State → Prop
  | bookkeeping {s t : State} (h : OnlyBookkeeping s t) : Move s t
  | opens {s : State} {n : Nat} (hidle : s.txState = .idle) (hfits : frameLength n ≤ maxLength) (addr cmd : Byte) :
      Move s (s.openFrame addr cmd n)
  | sends {s : State} {bs : List Byte} (hopen : s.txState = .payload) (hfits : bs.length ≤ s.txRemain.toNat) :
      Move s (s.sendPayload bs)
  | closes {s : State} (hopen : s.txState = .payload) (hall : s.txRemain = 0) : Move s s.closeFrame
  | fills {s : State} {qs : List Half} (hfits : 2 * qs.length ≤ s.cfg.chunkMax) : Move s (s.fillChunk qs)
  | stores {s : State} (hroom : s.rxCount < s.cfg.rxBufSize.val) (b : Byte) : Move s (s.storeRx b)
  | overflows {s : State} (hfull : s.cfg.rxBufSize.val ≤ s.rxCount) : Move s s.overflowRx
  | clears (s : State) : Move s s.clearChannel

/-- Any number of moves. -/
def Moves : State → State → Prop := Relation.ReflTransGen Move

theorem Moves.refl (s : State) : Moves s s := Relation.ReflTransGen.refl

theorem Moves.trans {s t u : State} (h : Moves s t) (k : Moves t u) : Moves s u := Relation.ReflTransGen.trans h k

theorem Move.moves {s t : State} (h : Move s t) : Moves s t := Relation.ReflTransGen.single h

theorem OnlyBookkeeping.moves {s t : State} (h : OnlyBookkeeping s t) : Moves s t := (Move.bookkeeping h).moves

/-- What each move keeps, moves keep. -/
theorem Moves.keep {P : State → Prop} (hmove : ∀ s t, Move s t → P s → P t) {s t : State} (h : Moves s t) (hs : P s) : P t := by
  induction h with
  | refl => exact hs
  | tail _ hlast ih => exact hmove _ _ hlast ih

theorem Move.cfg {s t : State} (h : Move s t) : t.cfg = s.cfg := by
  cases h with
  | bookkeeping h => rw [h]
  | opens | sends | closes | fills | stores | overflows | clears => rfl

theorem Move.envCfg {s t : State} (h : Move s t) : t.envCfg = s.envCfg := by
  cases h with
  | bookkeeping h => rw [h]
  | opens | sends | closes | fills | stores | overflows | clears => rfl

theorem Moves.cfg {s t : State} (h : Moves s t) : t.cfg = s.cfg :=
  h.keep (P := fun u => u.cfg = s.cfg) (fun _ _ hmove hs => hmove.cfg.trans hs) rfl

theorem Moves.envCfg {s t : State} (h : Moves s t) : t.envCfg = s.envCfg :=
  h.keep (P := fun u => u.envCfg = s.envCfg) (fun _ _ hmove hs => hmove.envCfg.trans hs) rfl

/-! ### The encoder and the chunker -/

theorem txBegin_moves (addr cmd : Byte) (plen : Nat) (s : State) : Moves s (txBegin addr cmd plen s) := by
  rcases txBegin_cases addr cmd plen s with ⟨-, h⟩ | ⟨-, -, h⟩ | ⟨hidle, hfits, -, h⟩ | ⟨-, -, -, h⟩ <;> rw [h]
  case inr.inr.inl => exact (Move.opens hidle hfits addr cmd).moves.trans (OnlyBookkeeping.moves rfl)
  all_goals exact OnlyBookkeeping.moves rfl

theorem txChunk_moves (bs : List Byte) (s : State) : Moves s (txChunk bs s) := by
  rcases txChunk_cases bs s with ⟨-, h⟩ | ⟨-, -, h⟩ | ⟨hopen, hfits, -, h⟩ | ⟨-, -, -, h⟩ <;> rw [h]
  case inr.inr.inl => exact (Move.sends hopen hfits).moves.trans (OnlyBookkeeping.moves rfl)
  all_goals exact OnlyBookkeeping.moves rfl

theorem txEnd_moves (s : State) : Moves s (txEnd s) := by
  rcases txEnd_cases s with ⟨-, h⟩ | ⟨-, -, h⟩ | ⟨hopen, hall, -, h⟩ | ⟨-, -, -, h⟩ <;> rw [h]
  case inr.inr.inl => exact (Move.closes hopen hall).moves.trans (OnlyBookkeeping.moves rfl)
  all_goals exact OnlyBookkeeping.moves rfl

/-- A composite makes the moves of its first step and, where it goes on, those of the next. -/
theorem Moves.andThen {s t : State} {f : State → State} (h : Moves s t) (hnext : Moves t (f t)) : Moves s (t.andThen f) := by
  rcases andThen_cases t f with ⟨-, e⟩ | ⟨-, e⟩ <;> rw [e]
  · exact h.trans hnext
  · exact h

theorem txFrame_moves (addr cmd : Byte) (payload : List Byte) (s : State) : Moves s (txFrame addr cmd payload s) :=
  ((txBegin_moves addr cmd payload.length s).andThen (txChunk_moves payload _)).andThen (txEnd_moves _)

theorem imageChunk_moves {height : Nat} {s : State} (hchunk : 2 * height ≤ s.cfg.chunkMax) : Moves s (imageChunk height s) := by
  rcases imageChunk_cases height s with ⟨-, h⟩ | ⟨henough, h⟩ <;> rw [h]
  · exact OnlyBookkeeping.moves rfl
  · have hlength : (s.pixels.take height).length = height := List.length_take_of_le henough
    have hpull : Moves s (s.dropPixels height) := OnlyBookkeeping.moves rfl
    have hfill : Move (s.dropPixels height) ((s.dropPixels height).fillChunk (s.pixels.take height)) :=
      .fills (by rwa [hlength])
    exact (hpull.trans hfill.moves).trans (txChunk_moves _ _)

theorem imageChunks_moves {height : Nat} (n : Nat) {s : State} (hchunk : 2 * height ≤ s.cfg.chunkMax) :
    Moves s (imageChunks height n s) := by
  induction n generalizing s with
  | zero => exact Moves.refl s
  | succ n ih =>
    have hfirst := imageChunk_moves hchunk
    exact hfirst.andThen (ih (by rwa [hfirst.cfg]))

theorem txImage_moves (addr : Byte) (width height : Half) (s : State) : Moves s (txImage addr width height s) := by
  rcases txImage_cases addr width height s with ⟨o, -, h⟩ | ⟨hready, hidle, hfits, hchunk⟩
  · rw [h]
    exact OnlyBookkeeping.moves rfl
  · rw [txImage_of_accepted hready hidle hfits hchunk]
    have hbegin := txBegin_moves addr s.cfg.codes.imageData (width.toNat * height.toNat * 2) s
    have hlines := hbegin.andThen (imageChunks_moves width.toNat (by rwa [hbegin.cfg]))
    exact (hlines.andThen (txEnd_moves _)).andThen (OnlyBookkeeping.moves rfl)

/-! ### The receive channel -/

theorem rxEvent_moves (s : State) (e : RxEvent) : Moves s (rxEvent s e) := by
  cases e with
  | boundary => exact OnlyBookkeeping.moves rfl
  | byte b =>
    rcases rxByte_cases b s with ⟨hroom, h⟩ | ⟨hfull, h⟩ <;> rw [rxEvent, h]
    · exact (Move.stores hroom b).moves
    · exact (Move.overflows hfull).moves

theorem rxEvents_moves (es : List RxEvent) (s : State) : Moves s (rxEvents s es) := by
  induction es generalizing s with
  | nil => exact Moves.refl s
  | cons e es ih => exact (rxEvent_moves s e).trans (ih (rxEvent s e))

theorem afterDecode_moves (s : State) (f : FrameCheck) : Moves s (afterDecode s f) := by
  cases f with
  | incomplete => exact OnlyBookkeeping.moves rfl
  | badMagic | badLength | badChecksum | accepted => exact (Move.clears s).moves

theorem rxDecode_moves (s : State) : Moves s (rxDecode s).2 := by
  rcases rxDecode_cases s with ⟨-, h⟩ | ⟨-, h⟩ <;> rw [h]
  · exact Moves.refl s
  · exact afterDecode_moves s (checkBuffer s)

theorem processLoop_moves (gs : List (List RxEvent)) (s : State) : Moves s (processLoop gs s).state := by
  induction gs generalizing s with
  | nil =>
    rcases rxDecode_cases s with ⟨-, h⟩ | ⟨-, h⟩ <;> simp only [processLoop, h]
    · exact OnlyBookkeeping.moves rfl
    · exact (afterDecode_moves s (checkBuffer s)).trans (OnlyBookkeeping.moves rfl)
  | cons g gs ih =>
    rcases rxDecode_cases s with ⟨-, h⟩ | ⟨-, h⟩ <;> simp only [processLoop, h]
    · exact OnlyBookkeeping.moves rfl
    · exact ((afterDecode_moves s (checkBuffer s)).trans (rxEvents_moves g _)).trans (ih _)

/-! ### The consumer -/

theorem takeAck_moves (s : State) : Moves s (takeAck s) := by
  rw [takeAck]
  split
  · exact OnlyBookkeeping.moves rfl
  · exact Moves.refl s

theorem handleRead_moves (addr : Byte) (seq : Half) (regAddr : Byte) (s : State) : Moves s (handleRead addr seq regAddr s) :=
  have hcount : Moves s { s with regReads := s.regReads + 1 } := OnlyBookkeeping.moves rfl
  hcount.trans (txFrame_moves _ _ _ _)

theorem consume_moves (c : FrameClass) (s : State) : Moves s (consume c s) := by
  have hreceived : Moves s (s.receiveClass c) := OnlyBookkeeping.moves rfl
  cases c with
  | ack => exact hreceived.trans (takeAck_moves _)
  | readRegister => exact hreceived.trans (handleRead_moves _ _ _ _)
  | writeRegister => exact hreceived.trans (OnlyBookkeeping.moves rfl)
  | formatSet | imageData | unknown => exact hreceived

/-! ### The Streaming Transmitter -/

theorem deliverNext_moves (s : State) : Moves s (deliverNext s) := by
  rw [deliverNext]
  split
  · exact Moves.refl s
  · next g gs _ =>
    have htaken : Moves s { s with between := gs } := OnlyBookkeeping.moves rfl
    exact htaken.trans (rxEvents_moves g _)

theorem serviceFrame_moves (s : State) (r : Request) : Moves s (serviceFrame s r) := by
  unfold serviceFrame
  split
  · exact consume_moves _ s
  · exact Moves.refl s

theorem serviceAll_moves (rs : List Request) (s : State) : Moves s (serviceAll s rs) := by
  induction rs generalizing s with
  | nil => exact Moves.refl s
  | cons r rs ih => exact (serviceFrame_moves s r).trans (ih (serviceFrame s r))

theorem pollOnce_moves (s : State) : Moves s (pollOnce s) := by
  have hloop := (deliverNext_moves s).trans (processLoop_moves (deliverNext s).between (deliverNext s))
  have hcounted : ∀ u : State, Moves u { u with polls := u.polls + 1 } := fun _ => OnlyBookkeeping.moves rfl
  exact (hloop.trans (hcounted _)).trans (serviceAll_moves _ _)

theorem negotiateLoop_moves (k : Nat) (s : State) : Moves s (negotiateLoop k s) := by
  induction k generalizing s with
  | zero => exact OnlyBookkeeping.moves rfl
  | succ k ih =>
    have hpoll := pollOnce_moves s
    simp only [negotiateLoop]
    split
    · exact hpoll
    · split
      · exact hpoll.trans (OnlyBookkeeping.moves rfl)
      · exact hpoll.trans (ih (pollOnce s))

theorem negotiate_moves (addr fmt : Byte) (width height : Half) (s : State) : Moves s (negotiate addr fmt width height s) := by
  have hsent : Moves s (txFormatSet addr fmt width height s) := txFrame_moves _ _ _ s
  have hwaits : ∀ u : State, Moves u { u with waiting := true } := fun _ => OnlyBookkeeping.moves rfl
  simp only [negotiate]
  split
  · exact hsent
  · exact (hsent.trans (hwaits _)).trans (negotiateLoop_moves _ _)

theorem streamImage_moves (addr : Byte) (width height : Half) (s : State) : Moves s (streamImage addr width height s) := by
  have hsent := txImage_moves addr width height s
  simp only [streamImage]
  split
  · exact hsent.trans (OnlyBookkeeping.moves rfl)
  · exact hsent

theorem writeImage_moves (addr fmt : Byte) (width height : Half) (s : State) : Moves s (writeImage addr fmt width height s) := by
  have hagreed := negotiate_moves addr fmt width height s
  have hstreams : ∀ u : State, Moves u { u with handshake := .streaming } := fun _ => OnlyBookkeeping.moves rfl
  unfold writeImage
  split
  · exact streamImage_moves addr width height s
  · dsimp only
    split
    · exact hagreed
    · split
      · exact hagreed
      · exact (hagreed.trans (hstreams _)).trans (streamImage_moves addr width height _)

/-! ### Instructions and turns -/

/-- Every instruction but RESET is made of moves. -/
theorem exec_moves {i : Instr} (hi : i ≠ .reset) {s t : State} (h : exec i s = .next t) : Moves s t := by
  cases i with
  | reset => exact absurd rfl hi
  | crcLoad => cases h; exact OnlyBookkeeping.moves rfl
  | crcByte | crcBlock | crcRead =>
    simp only [exec, execCrcByte, execCrcBlock, execCrcRead] at h
    split at h <;> cases h <;> exact OnlyBookkeeping.moves rfl
  | txBegin => cases h; exact txBegin_moves _ _ _ s
  | txChunk => cases h; exact txChunk_moves _ s
  | txEnd => cases h; exact txEnd_moves s
  | txFrame | txAck | txFormatSet => cases h; exact txFrame_moves _ _ _ s
  | txImage => cases h; exact txImage_moves _ _ _ s
  | rxByte b => cases h; exact rxEvent_moves s (.byte b)
  | rxBoundary => cases h; exact OnlyBookkeeping.moves rfl
  | rxDecode => cases h; exact (rxDecode_moves s).trans (OnlyBookkeeping.moves rfl)
  | rxProcess => cases h; exact (processLoop_moves s.between s).trans (OnlyBookkeeping.moves rfl)
  | ack | formatSet | imageData | writeRegister | readRegister | unknown => cases h; exact consume_moves _ s

theorem environmentActs_bookkeeping (e : EnvEvent) (s : State) : OnlyBookkeeping s (environmentActs e s) := by
  cases e <;> rfl

/-- A request that leads to a next state decoded to an instruction that ran. -/
theorem runRequest_next {r : Request} {s t : State} (h : runRequest r s = .next t) :
    ∃ i, decode s.cfg.codes r = .ok i ∧ exec i s = .next t := by
  rw [runRequest] at h
  split at h
  · exact nomatch h
  · next i hdecode =>
    split at h
    · exact nomatch h
    · exact ⟨i, hdecode, h⟩

/-- A procedure that leads to a next state ran. -/
theorem runProcedure_next {f : State → State} {s t : State} (h : runProcedure f s = .next t) : t = f s := by
  rw [runProcedure] at h
  split at h
  · exact nomatch h
  · exact (Host.Outcome.next.inj h).symm

/-- The next turn is a RESET that goes through, and `t` is what it leaves. -/
def ResetTurn (s t : State) : Prop :=
  ∃ r rest, s.agenda = .request r :: rest ∧ decode s.cfg.codes r = .ok .reset ∧ configValid s.cfgIn = true
    ∧ t = ({ s with agenda := rest } : State).engineReset

/-- A RESET that goes through found a valid configuration (R262). -/
theorem execReset_next {s t : State} (h : exec .reset s = .next t) : configValid s.cfgIn = true ∧ t = s.engineReset := by
  simp only [exec, execReset] at h
  split at h
  · next hvalid => exact ⟨hvalid, (Host.Outcome.next.inj h).symm⟩
  · exact nomatch h

/-- A step is made of moves, or is a RESET. -/
theorem step_moves {s t : State} (h : step s = .next t) : Moves s t ∨ ResetTurn s t := by
  rw [step] at h
  split at h
  · cases h
    exact .inl (Moves.refl s)
  · next turn rest hagenda =>
    have htaken : Moves s { s with agenda := rest } := OnlyBookkeeping.moves rfl
    cases turn with
    | request r =>
      obtain ⟨i, hdecode, hexec⟩ := runRequest_next h
      by_cases hi : i = .reset
      · subst hi
        obtain ⟨hvalid, rfl⟩ := execReset_next hexec
        exact .inr ⟨r, rest, hagenda, hdecode, hvalid, rfl⟩
      · exact .inl (htaken.trans (exec_moves hi hexec))
    | negotiate addr fmt width height =>
      rw [runProcedure_next h]
      exact .inl (htaken.trans (negotiate_moves addr fmt width height _))
    | writeImage addr fmt width height =>
      rw [runProcedure_next h]
      exact .inl (htaken.trans (writeImage_moves addr fmt width height _))
    | environment e =>
      cases h
      exact .inl (htaken.trans (environmentActs_bookkeeping e _).moves)

/-! ### What every step keeps -/

/-- Both buffers and the channel, move by move. -/
theorem Move.machineInv {s t : State} (h : Move s t) (hs : MachineInv s) : MachineInv t := by
  have ⟨hvalid, ⟨hrxWf, hchunkWf, hrxBelow, hchunkBelow⟩, hcount, hovf⟩ := hs
  cases h with
  | bookkeeping h => rw [h]; exact hs
  | opens | sends | closes => exact hs
  | fills hfits =>
    exact ⟨hvalid, ⟨hrxWf, writeBytes_wf hchunkWf 0 _, hrxBelow,
      writeBytes_below hchunkBelow (by rwa [Nat.zero_add, samplesBytes_length])⟩, hcount, hovf⟩
  | stores hroom b =>
    exact ⟨hvalid, ⟨writeByte_wf hrxWf _ b, hchunkWf, writeByte_below hrxBelow hroom b, hchunkBelow⟩, hroom,
      fun hover => absurd (hovf hover) (Nat.ne_of_lt hroom)⟩
  | overflows hfull => exact ⟨hvalid, ⟨hrxWf, hchunkWf, hrxBelow, hchunkBelow⟩, hcount, fun _ => Nat.le_antisymm hcount hfull⟩
  | clears => exact ⟨hvalid, ⟨hrxWf, hchunkWf, hrxBelow, hchunkBelow⟩, Nat.zero_le _, nofun⟩

/-- An engine just reset under a valid configuration has empty buffers and an empty channel. -/
theorem engineReset_machineInv {s : State} (h : configValid s.cfgIn = true) : MachineInv s.engineReset :=
  ⟨h, ⟨rfl, rfl, rfl, rfl⟩, Nat.zero_le _, nofun⟩

/-- Settles O52: each move keeps the invariant, and RESET makes it. -/
theorem everyStepKeepsInv : Obligations.EveryStepKeepsInv := by
  intro s t hs hstep
  rcases step_moves hstep with hmoves | ⟨r, rest, -, -, hvalid, rfl⟩
  · exact hmoves.keep (fun _ _ => Move.machineInv) hs
  · exact engineReset_machineInv hvalid

theorem txInv_of_idle {s : State} (h : s.txState = .idle) : TxInv s ↔ WholeFrames s.cfg s.txOut := by
  rw [TxInv, h]

theorem txInv_of_open {s : State} (h : s.txState = .payload) : TxInv s ↔ FrameInFlight s := by
  rw [TxInv, h]

theorem le_maxPayload_iff (n : Nat) : n ≤ maxPayload ↔ frameLength n ≤ maxLength := by
  simp only [maxPayload, frameLength, maxLength]
  omega

theorem WholeFrames.append_frame {c : Configuration} {done : List Byte} (h : WholeFrames c done) (addr cmd : Byte)
    {payload : List Byte} (hfits : payload.length ≤ maxPayload) : WholeFrames c (done ++ frameBytes c addr cmd payload) := by
  obtain ⟨fs, hall, rfl⟩ := h
  refine ⟨fs ++ [(addr, cmd, payload)], ?_, by simp [frameOf]⟩
  intro f hf
  rcases List.mem_append.mp hf with hf | hf
  · exact hall f hf
  · rwa [List.mem_singleton.mp hf]

/-- The frame in flight, move by move: it is opened with nothing sent, each piece lengthens it, and it is closed when whole. -/
theorem Move.txInv {s t : State} (h : Move s t) (hs : TxInv s) : TxInv t := by
  cases h with
  | bookkeeping h => rw [h]; exact hs
  | fills | stores | overflows | clears => exact hs
  | @opens n hidle hfits addr cmd =>
    rw [txInv_of_idle hidle] at hs
    exact ⟨s.txOut, [], addr, cmd, n, hs, (le_maxPayload_iff n).mpr hfits, (List.append_nil _).symm,
      by rw [List.append_nil]; rfl, remain_ofNat hfits⟩
  | @sends bs hopen hfits =>
    obtain ⟨done, sent, addr, cmd, n, hdone, hn, hout, hcrc, hremain⟩ := (txInv_of_open hopen).mp hs
    refine (txInv_of_open (s := s.sendPayload bs) hopen).mpr
      ⟨done, sent ++ bs, addr, cmd, n, hdone, hn, ?out, ?crc, ?remain⟩
    case out => rw [sendPayload_txOut, hout, List.append_assoc]; rfl
    case crc => rw [sendPayload_txCrc, hcrc, ← crc16Update_append, List.append_assoc]; rfl
    case remain =>
      rw [sendPayload_txRemain, remain_sub hfits, List.length_append]
      omega
  | closes hopen hall =>
    obtain ⟨done, sent, addr, cmd, n, hdone, hn, hout, hcrc, hremain⟩ := (txInv_of_open hopen).mp hs
    have hwhole : sent.length = n := by simpa [hall] using hremain
    subst hwhole
    have hframe : s.closeFrame.txOut = done ++ frameBytes s.cfg addr cmd sent := by
      simp [State.closeFrame, State.emit, hout, hcrc, frameBytes, frameBody]
    rw [txInv_of_idle (s := s.closeFrame) rfl, hframe]
    exact hdone.append_frame addr cmd hn

/-- Settles O54: each move keeps the invariant; a RESET that falls between frames and keeps the configuration leaves what it
speaks of. -/
theorem everyStepKeepsTxInv : Obligations.EveryStepKeepsTxInv := by
  intro s t hs hreset hstep
  rcases step_moves hstep with hmoves | ⟨r, rest, hagenda, hdecode, -, rfl⟩
  · exact hmoves.keep (fun _ _ => Move.txInv) hs
  · obtain ⟨hidle, hcfg⟩ := hreset r rest hagenda hdecode
    rw [txInv_of_idle hidle, ← hcfg] at hs
    exact hs

theorem Move.txOut {s t : State} (h : Move s t) : s.txOut <+: t.txOut := by
  cases h with
  | bookkeeping h => rw [h]
  | fills | stores | overflows | clears => exact List.prefix_rfl
  | opens | sends | closes => exact List.prefix_append _ _

theorem Moves.txOut {s t : State} (h : Moves s t) : s.txOut <+: t.txOut :=
  h.keep (P := fun u => s.txOut <+: u.txOut) (fun _ _ hmove hs => hs.trans hmove.txOut) List.prefix_rfl

/-- Settles O55: each move appends to `TX_OUT` or leaves it, and RESET leaves it. -/
theorem txOutOnlyGrows : Obligations.TxOutOnlyGrows := by
  intro s t hstep
  rcases step_moves hstep with hmoves | ⟨r, rest, -, -, -, rfl⟩
  · obtain ⟨bs, h⟩ := hmoves.txOut
    exact ⟨bs, h.symm⟩
  · exact ⟨[], (List.append_nil _).symm⟩

/-- Settles O56: no move writes the configuration; RESET writes the engine's registers. -/
theorem onlyResetWritesConfiguration : Obligations.OnlyResetWritesConfiguration := by
  refine ⟨fun i s t hi hexec => (exec_moves hi hexec).cfg, fun s t hexec => ?_⟩
  obtain ⟨-, rfl⟩ := execReset_next hexec
  rfl

/-- Settles O53: the reset state is an engine just reset under the inputs, and nothing has gone out. -/
theorem resetMeetsTheInvariants : Obligations.ResetMeetsTheInvariants := by
  have hvalid : configValid State.reset.cfg = true := by
    have hsize : 12 ≤ Config.rxBufSize.val := Nat.le_add_left 12 _
    have hchunk : 1 ≤ Config.chunkExtra + 1 := Nat.le_add_left 1 _
    simp only [configValid, State.reset, State.afterReset, Config.inputs, hsize, hchunk, decide_true, Bool.and_true]
    decide
  exact ⟨⟨hvalid, ⟨rfl, rfl, rfl, rfl⟩, Nat.zero_le _, nofun⟩, ⟨[], nofun, rfl⟩, rfl, rfl, rfl, rfl, rfl, rfl, rfl⟩

end Sys2Proof.Machine
end

section
/-! SUPPORT. Two engines in lockstep: a relation between states that the elementary updates keep is kept by every operation built of
them. What the CRC port, the producer and the unspecified state cannot influence are three such relations (10_state.md R11, R28;
20_memory.md R48). -/

namespace Sys2Proof.Machine

/-! ### The transmit side -/

/-- `t` agrees with `s` in all that the transmit side reads without a condition: everything but the CRC port, the running
registers of the encoder, the chunk buffer and the receive channel. -/
def SameTransmitView (s t : State) : Prop :=
  t = { s with crcAcc := t.crcAcc, crcValid := t.crcValid, txCrc := t.txCrc, txRemain := t.txRemain, chunkBuf := t.chunkBuf,
               rxBuf := t.rxBuf, rxCount := t.rxCount, rxReady := t.rxReady, rxOvf := t.rxOvf }

/-- A relation the transmit side's elementary updates keep, `TX_CRC` and `TX_REMAIN` being used in an open frame only. -/
structure TransmitLockstep (R : State → State → Prop) : Prop where
  view {s t : State} : R s t → SameTransmitView s t
  remain {s t : State} : R s t → s.txState = .payload → t.txRemain = s.txRemain
  scanline {s t : State} {height : Nat} : R s t → height ≤ s.pixels.length →
    readBytes (writeBytes t.chunkBuf 0 (samplesBytes s.cfg.endian (s.pixels.take height))) 0 (2 * height)
      = readBytes (writeBytes s.chunkBuf 0 (samplesBytes s.cfg.endian (s.pixels.take height))) 0 (2 * height)
  returning {s t : State} (h : R s t) (o : Returned) : R (s.returning o) (t.returning o)
  hanging {s t : State} (h : R s t) (c : Controller) : R (s.hanging c) (t.hanging c)
  openFrame {s t : State} (h : R s t) (addr cmd : Byte) (n : Nat) : R (s.openFrame addr cmd n) (t.openFrame addr cmd n)
  sendPayload {s t : State} (h : R s t) (bs : List Byte) : s.txState = .payload → R (s.sendPayload bs) (t.sendPayload bs)
  closeFrame {s t : State} (h : R s t) : s.txState = .payload → R s.closeFrame t.closeFrame
  pull {s t : State} (h : R s t) (height : Nat) (qs : List Half) :
    R ((s.dropPixels height).fillChunk qs) ((t.dropPixels height).fillChunk qs)
  signal {s t : State} (h : R s t) : R s.signalConsumed t.signalConsumed

namespace SameTransmitView
variable {s t : State} (h : SameTransmitView s t)
include h

theorem cfg : t.cfg = s.cfg := by rw [h]
theorem txState : t.txState = s.txState := by rw [h]
theorem result : t.result = s.result := by rw [h]
theorem pixels : t.pixels = s.pixels := by rw [h]
theorem captureReady : t.captureReady = s.captureReady := by rw [h]
theorem writeReturns_eq (bs : List Byte) : writeReturns t bs = writeReturns s bs := by rw [h]; rfl

end SameTransmitView

section
variable {R : State → State → Prop} (hR : TransmitLockstep R) {s t : State} (h : R s t)
include hR h

theorem txBegin_lockstep (addr cmd : Byte) (plen : Nat) : R (txBegin addr cmd plen s) (txBegin addr cmd plen t) := by
  have hview := hR.view h
  simp only [txBegin, hview.txState, hview.cfg, hview.writeReturns_eq]
  split
  · exact hR.returning h _
  · split
    · exact hR.returning h _
    · split
      · exact hR.returning (hR.openFrame h addr cmd plen) .ok
      · exact hR.hanging h .waitingForSink

theorem txChunk_lockstep (bs : List Byte) : R (txChunk bs s) (txChunk bs t) := by
  have hview := hR.view h
  by_cases hopen : s.txState = .payload
  · simp only [txChunk, hview.txState, hR.remain h hopen, hview.writeReturns_eq]
    split
    · exact hR.returning h _
    · split
      · exact hR.returning h _
      · split
        · exact hR.returning (hR.sendPayload h bs hopen) .ok
        · exact hR.hanging h .waitingForSink
  · simp only [txChunk, hview.txState, ne_eq, hopen, not_false_eq_true, if_true]
    exact hR.returning h _

theorem txEnd_lockstep : R (txEnd s) (txEnd t) := by
  have hview := hR.view h
  by_cases hopen : s.txState = .payload
  · have hwrite : writeReturns t (enc16 t.cfg.endian t.txCrc) = writeReturns s (enc16 s.cfg.endian s.txCrc) := by
      have hne : ∀ e v, enc16 e v ≠ [] := fun e v => List.ne_nil_of_length_eq_add_one (enc16_length e v)
      rw [hview.writeReturns_eq, writeReturns_of_ne_nil (hne _ _), writeReturns_of_ne_nil (hne _ _)]
    simp only [txEnd, hview.txState, hR.remain h hopen, hwrite]
    split
    · exact hR.returning h _
    · split
      · exact hR.returning h _
      · split
        · exact hR.returning (hR.closeFrame h hopen) .ok
        · exact hR.hanging h .waitingForSink
  · simp only [txEnd, hview.txState, ne_eq, hopen, not_false_eq_true, if_true]
    exact hR.returning h _

theorem andThen_lockstep {f : State → State} (hf : ∀ {s t}, R s t → R (f s) (f t)) : R (s.andThen f) (t.andThen f) := by
  simp only [State.andThen, (hR.view h).result]
  split
  · exact hf h
  · exact h

theorem txFrame_lockstep (addr cmd : Byte) (payload : List Byte) : R (txFrame addr cmd payload s) (txFrame addr cmd payload t) :=
  have hsent := andThen_lockstep hR (txBegin_lockstep hR h addr cmd payload.length) fun h => txChunk_lockstep hR h payload
  andThen_lockstep hR hsent (txEnd_lockstep hR)

theorem txAck_lockstep (addr status : Byte) (seq : Half) (value : Byte) :
    R (txAck addr status seq value s) (txAck addr status seq value t) := by
  rw [txAck, txAck, (hR.view h).cfg]
  exact txFrame_lockstep hR h _ _ _

theorem txFormatSet_lockstep (addr fmt : Byte) (width height : Half) :
    R (txFormatSet addr fmt width height s) (txFormatSet addr fmt width height t) := by
  rw [txFormatSet, txFormatSet, (hR.view h).cfg]
  exact txFrame_lockstep hR h _ _ _

theorem imageChunk_lockstep (height : Nat) : R (imageChunk height s) (imageChunk height t) := by
  have hview := hR.view h
  rcases imageChunk_cases height s with ⟨hshort, hs⟩ | ⟨henough, hs⟩
  · have ht : imageChunk height t = t.hanging .waitingForPixels := if_pos (by rwa [hview.pixels])
    rw [hs, ht]
    exact hR.hanging h .waitingForPixels
  · obtain ⟨-, ht⟩ := (imageChunk_cases height t).resolve_left fun ⟨hshort, _⟩ => by
      rw [hview.pixels] at hshort
      omega
    rw [hs, ht, hview.pixels, hview.cfg, hR.scanline h henough]
    exact txChunk_lockstep hR (hR.pull h height _) _

theorem imageChunks_lockstep (height n : Nat) : R (imageChunks height n s) (imageChunks height n t) := by
  induction n generalizing s t with
  | zero => exact h
  | succ n ih => exact andThen_lockstep hR (imageChunk_lockstep hR h height) ih

theorem txImage_lockstep (addr : Byte) (width height : Half) :
    R (txImage addr width height s) (txImage addr width height t) := by
  have hview := hR.view h
  cases hready : s.captureReady with
  | false =>
    rw [txImage_of_not_ready hready, txImage_of_not_ready (hview.captureReady.trans hready)]
    exact hR.returning h .notReady
  | true =>
    have hready' := hview.captureReady.trans hready
    cases hstate : s.txState with
    | payload =>
      rw [txImage_of_open hready hstate, txImage_of_open hready' (hview.txState.trans hstate)]
      exact hR.returning h _
    | idle =>
      have hstate' := hview.txState.trans hstate
      rcases Nat.lt_or_ge maxLength (frameLength (width.toNat * height.toNat * 2)) with hlong | hfits
      · rw [txImage_of_overflow hready hstate hlong, txImage_of_overflow hready' hstate' hlong]
        exact hR.returning h _
      · rcases Nat.lt_or_ge s.cfg.chunkMax (2 * height.toNat) with hlarge | hchunk
        · rw [txImage_of_chunk_too_large hready hstate hfits hlarge,
            txImage_of_chunk_too_large hready' hstate' hfits (by rwa [hview.cfg])]
          exact hR.returning h _
        · rw [txImage_of_accepted hready hstate hfits hchunk,
            txImage_of_accepted hready' hstate' hfits (by rwa [hview.cfg]), hview.cfg]
          have hbegun := txBegin_lockstep hR h addr s.cfg.codes.imageData (width.toNat * height.toNat * 2)
          have hsent := andThen_lockstep hR hbegun fun h => imageChunks_lockstep hR h height.toNat width.toNat
          exact andThen_lockstep hR (andThen_lockstep hR hsent (txEnd_lockstep hR)) hR.signal

end

/-! ### The receive side and the consumer -/

/-- `read_register` has been called once more (R203). -/
def State.countRead (s : State) : State := { s with regReads := s.regReads + 1 }

/-- A register read is answered by an acknowledgement with the free answer of that call (R206). -/
theorem handleRead_eq (addr : Byte) (seq : Half) (regAddr : Byte) (s : State) :
    handleRead addr seq regAddr s
      = txAck addr (replyStatus s.envCfg (Config.readRegister s.regReads regAddr)) seq
          (replyValue (Config.readRegister s.regReads regAddr)) s.countRead := rfl

/-- A relation that the elementary updates of the receive side and of the consumer keep as well. -/
structure EngineLockstep (R : State → State → Prop) : Prop extends TransmitLockstep R where
  ready {s t : State} : R s t → t.rxReady = s.rxReady
  check {s t : State} : R s t → checkBuffer t = checkBuffer s
  event {s t : State} (h : R s t) (e : RxEvent) : R (rxEvent s e) (rxEvent t e)
  attempt {s t : State} (h : R s t) (f : FrameCheck) : R (afterDecode s f) (afterDecode t f)
  plan {s t : State} (h : R s t) (gs : List (List RxEvent)) : R { s with between := gs } { t with between := gs }
  turns {s t : State} (h : R s t) (ts : List Turn) : R { s with agenda := ts } { t with agenda := ts }
  receive {s t : State} (h : R s t) (c : FrameClass) : R (s.receiveClass c) (t.receiveClass c)
  take {s t : State} (h : R s t) : R (takeAck s) (takeAck t)
  write {s t : State} (h : R s t) (regAddr regValue : Byte) : R (handleWrite regAddr regValue s) (handleWrite regAddr regValue t)
  read {s t : State} (h : R s t) : R s.countRead t.countRead

/-- Two outcomes are the same stop, or next states that are related. -/
inductive SameOutcome (R : State → State → Prop) :
    Host.Outcome State Fault Refusal → Host.Outcome State Fault Refusal → Prop
  | next {s t : State} (h : R s t) : SameOutcome R (.next s) (.next t)
  | fault (f : Fault) : SameOutcome R (.fault f) (.fault f)
  | refused (r : Refusal) : SameOutcome R (.refused r) (.refused r)

section
variable {R : State → State → Prop} (hR : EngineLockstep R)
include hR

theorem rxEvents_lockstep (es : List RxEvent) {s t : State} (h : R s t) : R (rxEvents s es) (rxEvents t es) := by
  induction es generalizing s t with
  | nil => exact h
  | cons e es ih => exact ih (hR.event h e)

theorem processLoop_lockstep (gs : List (List RxEvent)) {s t : State} (h : R s t) :
    R (processLoop gs s).state (processLoop gs t).state ∧ (processLoop gs t).outcomes = (processLoop gs s).outcomes
      ∧ (processLoop gs t).handed = (processLoop gs s).handed := by
  have hready := hR.ready h
  have hcheck := hR.check h
  have hcfg := (hR.view h).cfg
  have hattempt := hR.attempt h (checkBuffer s)
  induction gs generalizing s t with
  | nil =>
    rcases rxDecode_cases s with ⟨hdown, hs⟩ | ⟨hup, hs⟩
    · have ht : rxDecode t = (none, t) := if_neg (by simp [hready, hdown])
      simp only [processLoop, hs, ht]
      exact ⟨hR.plan h [], trivial, trivial⟩
    · have ht : rxDecode t = (some (checkBuffer s), afterDecode t (checkBuffer s)) :=
        hcheck ▸ if_pos (hready.trans hup)
      simp only [processLoop, hs, ht, hcfg]
      exact ⟨hR.plan hattempt [], trivial, trivial⟩
  | cons g gs ih =>
    rcases rxDecode_cases s with ⟨hdown, hs⟩ | ⟨hup, hs⟩
    · have ht : rxDecode t = (none, t) := if_neg (by simp [hready, hdown])
      simp only [processLoop, hs, ht]
      exact ⟨hR.plan h (g :: gs), trivial, trivial⟩
    · have ht : rxDecode t = (some (checkBuffer s), afterDecode t (checkBuffer s)) :=
        hcheck ▸ if_pos (hready.trans hup)
      have hnext := rxEvents_lockstep hR g hattempt
      obtain ⟨hstate, houtcomes, hhanded⟩ :=
        ih hnext (hR.ready hnext) (hR.check hnext) (hR.view hnext).cfg (hR.attempt hnext _)
      simp only [processLoop, hs, ht, hcfg, houtcomes, hhanded]
      exact ⟨hstate, trivial, trivial⟩

theorem consume_lockstep (c : FrameClass) {s t : State} (h : R s t) : R (consume c s) (consume c t) := by
  have hreceived := hR.receive h c
  cases c with
  | ack => exact hR.take hreceived
  | writeRegister => exact hR.write hreceived _ _
  | formatSet | imageData | unknown => exact hreceived
  | readRegister addr seq regAddr =>
    have hview := hR.view hreceived
    have hreads : (t.receiveClass (.readRegister addr seq regAddr)).regReads
        = (s.receiveClass (.readRegister addr seq regAddr)).regReads := by rw [hview]
    have henv : (t.receiveClass (.readRegister addr seq regAddr)).envCfg
        = (s.receiveClass (.readRegister addr seq regAddr)).envCfg := by rw [hview]
    simp only [consume, handleRead_eq, hreads, henv]
    exact txAck_lockstep hR.toTransmitLockstep (hR.read hreceived) _ _ _ _

theorem execRxDecode_lockstep {s t : State} (h : R s t) : SameOutcome R (exec .rxDecode s) (exec .rxDecode t) := by
  have hready := hR.ready h
  cases hs : s.rxReady with
  | false =>
    rw [exec_rxDecode_of_not_ready hs, exec_rxDecode_of_not_ready (hready.trans hs)]
    exact .next (hR.returning h _)
  | true =>
    rw [exec_rxDecode_of_ready hs, exec_rxDecode_of_ready (hready.trans hs), hR.check h, (hR.view h).cfg]
    exact .next (hR.returning (hR.attempt h _) _)

theorem execRxProcess_lockstep {s t : State} (h : R s t) : SameOutcome R (exec .rxProcess s) (exec .rxProcess t) := by
  have hbetween : t.between = s.between := by rw [hR.view h]
  obtain ⟨hstate, houtcomes, hhanded⟩ := processLoop_lockstep hR s.between h
  have hagenda : (processLoop s.between t).state.agenda = (processLoop s.between s).state.agenda := by rw [hR.view hstate]
  simp only [exec, execRxProcess, hbetween, houtcomes, hhanded, hagenda]
  exact .next (hR.returning (hR.turns hstate _) _)

/-- Every instruction that is neither the CRC port's nor RESET keeps related engines related. -/
theorem exec_lockstep {i : Instr} (hport : isCrcPort i = false) (hreset : i ≠ .reset) {s t : State} (h : R s t) :
    SameOutcome R (exec i s) (exec i t) := by
  have hT := hR.toTransmitLockstep
  have hcfg : t.cfg = s.cfg := (hR.view h).cfg
  cases i with
  | crcLoad | crcByte | crcBlock | crcRead => exact nomatch hport
  | reset => exact absurd rfl hreset
  | txBegin => exact .next (txBegin_lockstep hT h _ _ _)
  | txChunk => exact .next (txChunk_lockstep hT h _)
  | txEnd => exact .next (txEnd_lockstep hT h)
  | txFrame => exact .next (txFrame_lockstep hT h _ _ _)
  | txAck => exact .next (txAck_lockstep hT h _ _ _ _)
  | txFormatSet => exact .next (txFormatSet_lockstep hT h _ _ _ _)
  | txImage => exact .next (txImage_lockstep hT h _ _ _)
  | rxByte b => exact .next (hR.event h (.byte b))
  | rxBoundary => exact .next (hR.event h .boundary)
  | rxDecode => exact execRxDecode_lockstep hR h
  | rxProcess => exact execRxProcess_lockstep hR h
  | ack | formatSet | imageData | writeRegister | readRegister | unknown =>
    simp only [exec, execAck, execFormatSet, execImageData, execWriteRegister, execReadRegister, execUnknown, hcfg]
    exact .next (consume_lockstep hR _ h)

end

/-! ### A producer event, before or after -/

/-- A producer event commutes with an update that does not touch the channel. -/
theorem rxEvent_comm {f : State → State} {s : State} (hfull : rxFull (f s) = rxFull s)
    (hstore : ∀ b, f (s.storeRx b) = (f s).storeRx b) (hoverflow : f s.overflowRx = (f s).overflowRx)
    (hboundary : f (rxBoundary s) = rxBoundary (f s)) (e : RxEvent) : f (rxEvent s e) = rxEvent (f s) e := by
  cases e with
  | boundary => exact hboundary
  | byte b =>
    simp only [rxEvent, rxByte, hfull]
    split
    · exact hoverflow
    · exact hstore b

theorem rxEvent_transmitLockstep (e : RxEvent) : TransmitLockstep fun s t => t = rxEvent s e where
  view := by rintro s _ rfl; rw [SameTransmitView, rxEvent_frame s e]
  remain := by rintro s _ rfl _; rw [rxEvent_frame s e]
  scanline := by rintro s _ _ rfl _; rw [rxEvent_frame s e]
  returning := by rintro s _ rfl o; exact rxEvent_comm (s := s) (f := (·.returning o)) rfl (fun _ => rfl) rfl rfl e
  hanging := by rintro s _ rfl c; exact rxEvent_comm (s := s) (f := (·.hanging c)) rfl (fun _ => rfl) rfl rfl e
  openFrame := by
    rintro s _ rfl addr cmd n
    exact rxEvent_comm (s := s) (f := (·.openFrame addr cmd n)) rfl (fun _ => rfl) rfl rfl e
  sendPayload := by rintro s _ rfl bs _; exact rxEvent_comm (s := s) (f := (·.sendPayload bs)) rfl (fun _ => rfl) rfl rfl e
  closeFrame := by rintro s _ rfl _; exact rxEvent_comm (s := s) (f := State.closeFrame) rfl (fun _ => rfl) rfl rfl e
  pull := by
    rintro s _ rfl height qs
    exact rxEvent_comm (s := s) (f := fun u => (u.dropPixels height).fillChunk qs) rfl (fun _ => rfl) rfl rfl e
  signal := by rintro s _ rfl; exact rxEvent_comm (s := s) (f := State.signalConsumed) rfl (fun _ => rfl) rfl rfl e

theorem exec_crcBlock_rxEvent (bs : List Byte) (s : State) (e : RxEvent) :
    exec (.crcBlock bs) (rxEvent s e) = mapNext (fun t => rxEvent t e) (exec (.crcBlock bs) s) := by
  have hvalid : (rxEvent s e).crcValid = s.crcValid := by rw [rxEvent_frame s e]
  have hacc : (rxEvent s e).crcAcc = s.crcAcc := by rw [rxEvent_frame s e]
  cases h : s.crcValid with
  | false =>
    rw [exec_crcBlock_of_not_loaded h, exec_crcBlock_of_not_loaded (hvalid.trans h)]
    exact congrArg Host.Outcome.next (rxEvent_comm (s := s) (f := (·.refusing .crcNotLoaded)) rfl (fun _ => rfl) rfl rfl e)
  | true =>
    rw [exec_crcBlock_of_loaded h, exec_crcBlock_of_loaded (hvalid.trans h), hacc]
    exact congrArg Host.Outcome.next (rxEvent_comm (s := s)
      (f := fun u => { u with crcAcc := crc16Update s.crcAcc bs }.returning .ok) rfl (fun _ => rfl) rfl rfl e)

theorem exec_crcRead_rxEvent (s : State) (e : RxEvent) :
    exec .crcRead (rxEvent s e) = mapNext (fun t => rxEvent t e) (exec .crcRead s) := by
  have hvalid : (rxEvent s e).crcValid = s.crcValid := by rw [rxEvent_frame s e]
  have hacc : (rxEvent s e).crcAcc = s.crcAcc := by rw [rxEvent_frame s e]
  cases h : s.crcValid with
  | false =>
    rw [exec_crcRead_of_not_loaded h, exec_crcRead_of_not_loaded (hvalid.trans h)]
    exact congrArg Host.Outcome.next (rxEvent_comm (s := s) (f := (·.refusing .crcNotLoaded)) rfl (fun _ => rfl) rfl rfl e)
  | true =>
    rw [exec_crcRead_of_loaded h, exec_crcRead_of_loaded (hvalid.trans h), hacc]
    exact congrArg Host.Outcome.next
      (rxEvent_comm (s := s) (f := (·.returning (.value s.crcAcc))) rfl (fun _ => rfl) rfl rfl e)

/-- A CRC operation does not look at the channel, nor a producer event at the port. -/
theorem exec_crcPort_rxEvent {i : Instr} (hi : isCrcPort i = true) (s : State) (e : RxEvent) :
    exec i (rxEvent s e) = mapNext (fun t => rxEvent t e) (exec i s) := by
  cases i with
  | crcLoad seed =>
    exact congrArg Host.Outcome.next (rxEvent_comm (s := s)
      (f := fun u => { u with crcAcc := seed, crcValid := true }.returning .ok) rfl (fun _ => rfl) rfl rfl e)
  | crcByte b => exact exec_crcBlock_rxEvent [b] s e
  | crcBlock bs => exact exec_crcBlock_rxEvent bs s e
  | crcRead => exact exec_crcRead_rxEvent s e
  | txBegin | txChunk | txEnd | txFrame | txAck | txFormatSet | txImage | rxByte | rxBoundary | rxDecode | rxProcess | reset
  | ack | formatSet | imageData | writeRegister | readRegister | unknown => exact nomatch hi

/-- Settles O58: before or after a producer event the transmit side goes in lockstep, and the CRC port does not look. -/
theorem producerCommutesWithTransmit : Obligations.ProducerCommutesWithTransmit := by
  intro i s e hi
  rcases hi with hport | htransmit
  · exact exec_crcPort_rxEvent hport s e
  · have hT := rxEvent_transmitLockstep e
    cases i with
    | txBegin => exact congrArg Host.Outcome.next (txBegin_lockstep hT rfl _ _ _)
    | txChunk => exact congrArg Host.Outcome.next (txChunk_lockstep hT rfl _)
    | txEnd => exact congrArg Host.Outcome.next (txEnd_lockstep hT rfl)
    | txFrame => exact congrArg Host.Outcome.next (txFrame_lockstep hT rfl _ _ _)
    | txAck => exact congrArg Host.Outcome.next (txAck_lockstep hT rfl _ _ _ _)
    | txFormatSet => exact congrArg Host.Outcome.next (txFormatSet_lockstep hT rfl _ _ _ _)
    | txImage => exact congrArg Host.Outcome.next (txImage_lockstep hT rfl _ _ _)
    | crcLoad | crcByte | crcBlock | crcRead | rxByte | rxBoundary | rxDecode | rxProcess | reset | ack | formatSet
    | imageData | writeRegister | readRegister | unknown => exact nomatch htransmit

/-! ### Another value in the CRC port -/

/-- The port holds `a`, and whether it is loaded is `v`. -/
def withCrcPort (a : Half) (v : Bool) (s : State) : State := { s with crcAcc := a, crcValid := v }

theorem withCrcPort_takeAck (a : Half) (v : Bool) (s : State) : takeAck (withCrcPort a v s) = withCrcPort a v (takeAck s) := by
  cases h : s.waiting <;> simp [takeAck, withCrcPort, h]

theorem withCrcPort_lockstep (a : Half) (v : Bool) : EngineLockstep fun s t => t = withCrcPort a v s where
  view := by rintro s _ rfl; rfl
  remain := by rintro s _ rfl _; rfl
  scanline := by rintro s _ _ rfl _; rfl
  returning := by rintro s _ rfl o; rfl
  hanging := by rintro s _ rfl c; rfl
  openFrame := by rintro s _ rfl addr cmd n; rfl
  sendPayload := by rintro s _ rfl bs _; rfl
  closeFrame := by rintro s _ rfl _; rfl
  pull := by rintro s _ rfl height qs; rfl
  signal := by rintro s _ rfl; rfl
  ready := by rintro s _ rfl; rfl
  check := by rintro s _ rfl; rfl
  event := by rintro s _ rfl e; exact (rxEvent_comm (s := s) (f := withCrcPort a v) rfl (fun _ => rfl) rfl rfl e).symm
  attempt := by rintro s _ rfl f; cases f <;> rfl
  plan := by rintro s _ rfl gs; rfl
  turns := by rintro s _ rfl ts; rfl
  receive := by rintro s _ rfl c; rfl
  take := by rintro s _ rfl; exact withCrcPort_takeAck a v s
  write := by rintro s _ rfl regAddr regValue; rfl
  read := by rintro s _ rfl; rfl

/-- Settles O57: an engine with another value in its port goes in lockstep. -/
theorem crcPortIsIsolated : Obligations.CrcPortIsIsolated := by
  intro i s a v hport hreset
  have hsame := exec_lockstep (withCrcPort_lockstep a v) hport hreset (s := s) rfl
  change exec i (withCrcPort a v s) = mapNext (withCrcPort a v) (exec i s)
  generalize exec i s = os, exec i (withCrcPort a v s) = ot at hsame ⊢
  cases hsame with
  | next h => rw [h]; rfl
  | fault | refused => rfl

end Sys2Proof.Machine
end

section
/-! SUPPORT. The Streaming Transmitter's procedures, one equation per end (44_environment_agents.md R208 to R213). -/

namespace Sys2Proof.Machine

/-- The handshake begins to wait for an Ack (R208). -/
def State.awaitAck (s : State) : State := { s with waiting := true }

/-- One more poll has been made (R209). -/
def State.countPoll (s : State) : State := { s with polls := s.polls + 1 }

/-- The handshake state is `x` (R210). -/
def State.withHandshake (s : State) (x : Handshake) : State := { s with handshake := x }

/-- A poll lets the producer act, runs RX_PROCESS and services what it handed over (R208). -/
theorem pollOnce_eq (s : State) :
    pollOnce s
      = serviceAll (processLoop (deliverNext s).between (deliverNext s)).state.countPoll
          (processLoop (deliverNext s).between (deliverNext s)).handed := rfl

section
variable {k : Nat} {s : State}

theorem negotiateLoop_of_stuck (h : (pollOnce s).controller ≠ .ready) : negotiateLoop (k + 1) s = pollOnce s := if_pos h

theorem negotiateLoop_of_acked (h : (pollOnce s).controller = .ready) (hacked : (pollOnce s).waiting = false) :
    negotiateLoop (k + 1) s = (pollOnce s).endHandshake .ok :=
  (if_neg (not_not.mpr h)).trans (if_pos hacked)

theorem negotiateLoop_of_waiting (h : (pollOnce s).controller = .ready) (hwaiting : (pollOnce s).waiting = true) :
    negotiateLoop (k + 1) s = negotiateLoop k (pollOnce s) :=
  (if_neg (not_not.mpr h)).trans (if_neg (by simp [hwaiting]))

end

section
variable {addr fmt : Byte} {width height : Half} {s : State}

theorem negotiate_of_stuck (h : (txFormatSet addr fmt width height s).controller ≠ .ready) :
    negotiate addr fmt width height s = txFormatSet addr fmt width height s := if_pos h

theorem negotiate_of_ready (h : (txFormatSet addr fmt width height s).controller = .ready) :
    negotiate addr fmt width height s
      = negotiateLoop (txFormatSet addr fmt width height s).envCfg.retryBudget (txFormatSet addr fmt width height s).awaitAck :=
  if_neg (not_not.mpr h)

theorem streamImage_of_everyFrame (h : (txImage addr width height s).controller = .ready)
    (hpolicy : (txImage addr width height s).envCfg.negotiatePolicy = .everyFrame) :
    streamImage addr width height s = (txImage addr width height s).withHandshake .needsFormatAck := if_pos ⟨h, hpolicy⟩

theorem streamImage_of_not_everyFrame
    (h : ¬ ((txImage addr width height s).controller = .ready
      ∧ (txImage addr width height s).envCfg.negotiatePolicy = .everyFrame)) :
    streamImage addr width height s = txImage addr width height s := if_neg h

theorem writeImage_of_streaming (h : s.handshake = .streaming) :
    writeImage addr fmt width height s = streamImage addr width height s := by
  rw [writeImage, h]

theorem writeImage_of_stuck (h : s.handshake = .needsFormatAck) (hstuck : (negotiate addr fmt width height s).controller ≠ .ready) :
    writeImage addr fmt width height s = negotiate addr fmt width height s := by
  rw [writeImage, h]
  exact if_pos hstuck

theorem writeImage_of_halt (h : s.handshake = .needsFormatAck) (hready : (negotiate addr fmt width height s).controller = .ready)
    (hhalt : (negotiate addr fmt width height s).result = some .handshakeTimeout
      ∧ (negotiate addr fmt width height s).envCfg.failPolicy = .halt) :
    writeImage addr fmt width height s = negotiate addr fmt width height s := by
  rw [writeImage, h]
  exact (if_neg (not_not.mpr hready)).trans (if_pos hhalt)

theorem writeImage_of_agreed (h : s.handshake = .needsFormatAck)
    (hready : (negotiate addr fmt width height s).controller = .ready)
    (hgo : ¬ ((negotiate addr fmt width height s).result = some .handshakeTimeout
      ∧ (negotiate addr fmt width height s).envCfg.failPolicy = .halt)) :
    writeImage addr fmt width height s
      = streamImage addr width height ((negotiate addr fmt width height s).withHandshake .streaming) := by
  rw [writeImage, h]
  exact (if_neg (not_not.mpr hready)).trans (if_neg hgo)

end

end Sys2Proof.Machine
end

section
/-! SUPPORT. What the spec leaves unspecified is never observable: two engines that differ in it go in lockstep (10_state.md R28). -/

namespace Sys2Proof.Machine

/-! ### Alike states -/

section
variable {s t : State} (h : Alike s t)
include h

theorem Alike.view : SameTransmitView s t := by
  rw [SameTransmitView, h.1]

/-- What is buffered is what the spec gives a value. -/
theorem Alike.bufferedBytes_eq : bufferedBytes t = bufferedBytes s := by
  obtain ⟨hsame, -, -, hrx, -⟩ := h
  have hcount : t.rxCount = s.rxCount := by rw [hsame]
  rw [bufferedBytes, bufferedBytes, hcount]
  exact readBytes_congr fun a _ ha => hrx a (by omega)

theorem Alike.checkBuffer_eq : checkBuffer t = checkBuffer s := by
  have hovf : t.rxOvf = s.rxOvf := by rw [h.1]
  rw [checkBuffer, checkBuffer, h.view.cfg, hovf, h.bufferedBytes_eq]

/-- A chunk is read back as it was stored, whatever the buffer held (R143). -/
theorem Alike.scanline_eq {height : Nat} (henough : height ≤ s.pixels.length) :
    readBytes (writeBytes t.chunkBuf 0 (samplesBytes s.cfg.endian (s.pixels.take height))) 0 (2 * height)
      = readBytes (writeBytes s.chunkBuf 0 (samplesBytes s.cfg.endian (s.pixels.take height))) 0 (2 * height) := by
  obtain ⟨-, -, -, -, -, -, hs, ht⟩ := h
  have hlength : (samplesBytes s.cfg.endian (s.pixels.take height)).length = 2 * height := by simp [henough]
  rw [← hlength, readBytes_writeBytes hs, readBytes_writeBytes ht]

theorem Alike.openFrame (addr cmd : Byte) (n : Nat) : Alike (s.openFrame addr cmd n) (t.openFrame addr cmd n) := by
  obtain ⟨hsame, hacc, -, hbuffers⟩ := h
  rw [hsame]
  exact ⟨rfl, hacc, fun _ => ⟨rfl, rfl⟩, hbuffers⟩

theorem Alike.sendPayload (bs : List Byte) (hopen : s.txState = .payload) : Alike (s.sendPayload bs) (t.sendPayload bs) := by
  obtain ⟨hsame, hacc, hframe, hbuffers⟩ := h
  obtain ⟨hcrc, hremain⟩ := hframe hopen
  rw [hsame]
  exact ⟨rfl, hacc, fun _ => ⟨congrArg (crc16Update · bs) hcrc, congrArg (· - BitVec.ofNat 32 bs.length) hremain⟩, hbuffers⟩

theorem Alike.closeFrame (hopen : s.txState = .payload) : Alike s.closeFrame t.closeFrame := by
  obtain ⟨hsame, hacc, hframe, hbuffers⟩ := h
  obtain ⟨hcrc, -⟩ := hframe hopen
  refine ⟨?same, hacc, nofun, hbuffers⟩
  case same =>
    have hcfg : t.cfg = s.cfg := by rw [hsame]
    have hchecksum : enc16 t.cfg.endian t.txCrc = enc16 s.cfg.endian s.txCrc := by rw [hcrc, hcfg]
    unfold State.closeFrame State.emit
    rw [hchecksum, hsame]

theorem Alike.pull (height : Nat) (qs : List Half) :
    Alike ((s.dropPixels height).fillChunk qs) ((t.dropPixels height).fillChunk qs) := by
  obtain ⟨hsame, hacc, hframe, hrx, hrxs, hrxt, hchunks, hchunkt⟩ := h
  rw [hsame]
  exact ⟨rfl, hacc, hframe, hrx, hrxs, hrxt, writeBytes_wf hchunks 0 _, writeBytes_wf hchunkt 0 _⟩

theorem Alike.storeRx (b : Byte) : Alike (s.storeRx b) (t.storeRx b) := by
  obtain ⟨hsame, hacc, hframe, hrx, hrxs, hrxt, hchunks⟩ := h
  have hstored : ∀ a < s.rxCount + 1,
      readByte (writeByte t.rxBuf s.rxCount b) a = readByte (writeByte s.rxBuf s.rxCount b) a := by
    intro a ha
    by_cases hat : a = s.rxCount
    · rw [hat, readByte_writeByte_same (lo := 0) hrxs, readByte_writeByte_same (lo := 0) hrxt]
    · rw [readByte_writeByte_ne _ b hat, readByte_writeByte_ne _ b hat, hrx a (by omega)]
  rw [hsame]
  exact ⟨rfl, hacc, hframe, hstored, writeByte_wf hrxs _ b, writeByte_wf hrxt _ b, hchunks⟩

theorem Alike.rxEvent (e : RxEvent) : Alike (rxEvent s e) (Machine.rxEvent t e) := by
  cases e with
  | boundary =>
    rw [h.1]
    exact ⟨rfl, h.2⟩
  | byte b =>
    have hfull : rxFull t = rxFull s := by rw [h.1]; rfl
    simp only [Machine.rxEvent, rxByte, hfull]
    split
    · rw [h.1]
      exact ⟨rfl, h.2⟩
    · exact h.storeRx b

theorem Alike.afterDecode (f : FrameCheck) : Alike (afterDecode s f) (Machine.afterDecode t f) := by
  obtain ⟨hsame, hacc, hframe, -, hbuffers⟩ := id h
  cases f with
  | incomplete =>
    rw [hsame]
    exact ⟨rfl, h.2⟩
  | badMagic | badLength | badChecksum | accepted =>
    rw [hsame]
    exact ⟨rfl, hacc, hframe, nofun, hbuffers⟩

theorem Alike.takeAck : Alike (takeAck s) (Machine.takeAck t) := by
  have hwaiting : t.waiting = s.waiting := by rw [h.1]
  simp only [Machine.takeAck, hwaiting]
  split
  · rw [h.1]
    exact ⟨rfl, h.2⟩
  · exact h

end

/-- Alike engines go in lockstep. -/
theorem alike_lockstep : EngineLockstep Alike where
  view := Alike.view
  remain := fun ⟨_, _, hframe, _⟩ hopen => (hframe hopen).2
  scanline h := h.scanline_eq
  returning h o := by rw [h.1]; exact ⟨rfl, h.2⟩
  hanging h c := by rw [h.1]; exact ⟨rfl, h.2⟩
  openFrame := Alike.openFrame
  sendPayload := Alike.sendPayload
  closeFrame := Alike.closeFrame
  pull := Alike.pull
  signal h := by rw [h.1]; exact ⟨rfl, h.2⟩
  ready h := by rw [h.1]
  check := Alike.checkBuffer_eq
  event := Alike.rxEvent
  attempt := Alike.afterDecode
  plan h gs := by rw [h.1]; exact ⟨rfl, h.2⟩
  turns h ts := by rw [h.1]; exact ⟨rfl, h.2⟩
  receive h c := by rw [h.1]; exact ⟨rfl, h.2⟩
  take := Alike.takeAck
  write h regAddr regValue := by rw [h.1]; exact ⟨rfl, h.2⟩
  read h := by rw [h.1]; exact ⟨rfl, h.2⟩

/-! ### Instructions -/

section
variable {s t : State} (h : Alike s t)
include h

/-- The accumulator is read only while it is valid (R11, R12). -/
theorem Alike.exec_crcPort {i : Instr} (hi : isCrcPort i = true) : SameOutcome Alike (exec i s) (exec i t) := by
  obtain ⟨hsame, hacc, hframe, hbuffers⟩ := id h
  have hvalid : t.crcValid = s.crcValid := by rw [hsame]
  have hreturn : ∀ o, Alike (s.returning o) (t.returning o) := alike_lockstep.returning h
  have hblock : ∀ bs, SameOutcome Alike (exec (.crcBlock bs) s) (exec (.crcBlock bs) t) := by
    intro bs
    cases hs : s.crcValid with
    | false =>
      rw [exec_crcBlock_of_not_loaded hs, exec_crcBlock_of_not_loaded (hvalid.trans hs)]
      exact .next (hreturn _)
    | true =>
      rw [exec_crcBlock_of_loaded hs, exec_crcBlock_of_loaded (hvalid.trans hs), hacc hs, hsame]
      exact .next ⟨rfl, fun _ => rfl, hframe, hbuffers⟩
  cases i with
  | crcLoad seed =>
    refine .next ⟨?_, fun _ => rfl, hframe, hbuffers⟩
    rw [hsame]
    rfl
  | crcByte b => exact hblock [b]
  | crcBlock bs => exact hblock bs
  | crcRead =>
    cases hs : s.crcValid with
    | false =>
      rw [exec_crcRead_of_not_loaded hs, exec_crcRead_of_not_loaded (hvalid.trans hs)]
      exact .next (hreturn _)
    | true =>
      rw [exec_crcRead_of_loaded hs, exec_crcRead_of_loaded (hvalid.trans hs), hacc hs]
      exact .next (hreturn _)
  | txBegin | txChunk | txEnd | txFrame | txAck | txFormatSet | txImage | rxByte | rxBoundary | rxDecode | rxProcess | reset
  | ack | formatSet | imageData | writeRegister | readRegister | unknown => exact nomatch hi

/-- After a RESET nothing is left to differ. -/
theorem Alike.exec_reset : SameOutcome Alike (exec .reset s) (exec .reset t) := by
  have hinputs : t.cfgIn = s.cfgIn := by rw [h.1]
  have hreset : t.engineReset = s.engineReset := by rw [h.1]; rfl
  simp only [exec, execReset, hinputs, hreset]
  split
  · exact .next ⟨rfl, nofun, nofun, nofun, rfl, rfl, rfl, rfl⟩
  · exact .refused _

theorem Alike.exec (i : Instr) : SameOutcome Alike (exec i s) (Machine.exec i t) := by
  by_cases hreset : i = .reset
  · rw [hreset]
    exact h.exec_reset
  · cases hport : isCrcPort i with
    | true => exact h.exec_crcPort hport
    | false => exact exec_lockstep alike_lockstep hport hreset h

/-! ### Procedures -/

theorem Alike.controller_eq : t.controller = s.controller := by rw [h.1]

theorem Alike.envCfg_eq : t.envCfg = s.envCfg := by rw [h.1]

theorem Alike.deliverNext : Alike (deliverNext s) (Machine.deliverNext t) := by
  have hbetween : t.between = s.between := by rw [h.1]
  cases hs : s.between with
  | nil => simpa only [Machine.deliverNext, hbetween, hs] using h
  | cons g gs =>
    simp only [Machine.deliverNext, hbetween, hs]
    exact rxEvents_lockstep alike_lockstep g (alike_lockstep.plan h gs)

theorem Alike.serviceFrame (r : Request) : Alike (serviceFrame s r) (Machine.serviceFrame t r) := by
  unfold Machine.serviceFrame
  rw [h.controller_eq, h.view.cfg]
  split
  · exact consume_lockstep alike_lockstep _ h
  · exact h

theorem Alike.serviceAll (rs : List Request) : Alike (serviceAll s rs) (Machine.serviceAll t rs) := by
  induction rs generalizing s t with
  | nil => exact h
  | cons r rs ih => exact ih (h.serviceFrame r)

theorem Alike.countPoll : Alike s.countPoll t.countPoll := by
  rw [h.1]
  exact ⟨rfl, h.2⟩

theorem Alike.awaitAck : Alike s.awaitAck t.awaitAck := by
  rw [h.1]
  exact ⟨rfl, h.2⟩

theorem Alike.withHandshake (x : Handshake) : Alike (s.withHandshake x) (t.withHandshake x) := by
  rw [h.1]
  exact ⟨rfl, h.2⟩

theorem Alike.endHandshake (o : Returned) : Alike (s.endHandshake o) (t.endHandshake o) := by
  rw [h.1]
  exact ⟨rfl, h.2⟩

theorem Alike.pollOnce : Alike (pollOnce s) (Machine.pollOnce t) := by
  have hdelivered := h.deliverNext
  have hbetween : (Machine.deliverNext t).between = (Machine.deliverNext s).between := by rw [hdelivered.1]
  obtain ⟨hrun, -, hhanded⟩ := processLoop_lockstep alike_lockstep (Machine.deliverNext s).between hdelivered
  rw [pollOnce_eq, pollOnce_eq, hbetween, hhanded]
  exact hrun.countPoll.serviceAll _

theorem Alike.negotiateLoop (k : Nat) : Alike (negotiateLoop k s) (Machine.negotiateLoop k t) := by
  induction k generalizing s t with
  | zero => exact h.endHandshake _
  | succ k ih =>
    have hpolled := h.pollOnce
    have hcontroller := hpolled.controller_eq
    have hwaiting : (Machine.pollOnce t).waiting = (Machine.pollOnce s).waiting := by rw [hpolled.1]
    by_cases hready : (Machine.pollOnce s).controller = .ready
    · cases hs : (Machine.pollOnce s).waiting with
      | false =>
        rw [negotiateLoop_of_acked hready hs, negotiateLoop_of_acked (hcontroller.trans hready) (hwaiting.trans hs)]
        exact hpolled.endHandshake .ok
      | true =>
        rw [negotiateLoop_of_waiting hready hs, negotiateLoop_of_waiting (hcontroller.trans hready) (hwaiting.trans hs)]
        exact ih hpolled
    · rw [negotiateLoop_of_stuck hready, negotiateLoop_of_stuck (hcontroller ▸ hready)]
      exact hpolled

theorem Alike.negotiate (addr fmt : Byte) (width height : Half) :
    Alike (negotiate addr fmt width height s) (Machine.negotiate addr fmt width height t) := by
  have hsent := txFormatSet_lockstep alike_lockstep.toTransmitLockstep h addr fmt width height
  have hcontroller := hsent.controller_eq
  by_cases hready : (txFormatSet addr fmt width height s).controller = .ready
  · rw [negotiate_of_ready hready, negotiate_of_ready (hcontroller.trans hready), hsent.envCfg_eq]
    exact hsent.awaitAck.negotiateLoop _
  · rw [negotiate_of_stuck hready, negotiate_of_stuck (hcontroller ▸ hready)]
    exact hsent

theorem Alike.streamImage (addr : Byte) (width height : Half) :
    Alike (streamImage addr width height s) (Machine.streamImage addr width height t) := by
  have hsent := txImage_lockstep alike_lockstep.toTransmitLockstep h addr width height
  by_cases hagain : (txImage addr width height s).controller = .ready
      ∧ (txImage addr width height s).envCfg.negotiatePolicy = .everyFrame
  · obtain ⟨hready, hpolicy⟩ := hagain
    rw [streamImage_of_everyFrame hready hpolicy,
      streamImage_of_everyFrame (hsent.controller_eq.trans hready) (hsent.envCfg_eq ▸ hpolicy)]
    exact hsent.withHandshake .needsFormatAck
  · rw [streamImage_of_not_everyFrame hagain,
      streamImage_of_not_everyFrame (by rwa [hsent.controller_eq, hsent.envCfg_eq])]
    exact hsent

theorem Alike.writeImage (addr fmt : Byte) (width height : Half) :
    Alike (writeImage addr fmt width height s) (Machine.writeImage addr fmt width height t) := by
  have hhandshake : t.handshake = s.handshake := by rw [h.1]
  cases hs : s.handshake with
  | streaming =>
    rw [writeImage_of_streaming hs, writeImage_of_streaming (hhandshake.trans hs)]
    exact h.streamImage addr width height
  | needsFormatAck =>
    have ht := hhandshake.trans hs
    have hagreed := h.negotiate addr fmt width height
    have hcontroller := hagreed.controller_eq
    by_cases hready : (Machine.negotiate addr fmt width height s).controller = .ready
    · by_cases hhalt : (Machine.negotiate addr fmt width height s).result = some .handshakeTimeout
          ∧ (Machine.negotiate addr fmt width height s).envCfg.failPolicy = .halt
      · rw [writeImage_of_halt hs hready hhalt,
          writeImage_of_halt ht (hcontroller.trans hready) (by rwa [hagreed.view.result, hagreed.envCfg_eq])]
        exact hagreed
      · rw [writeImage_of_agreed hs hready hhalt,
          writeImage_of_agreed ht (hcontroller.trans hready) (by rwa [hagreed.view.result, hagreed.envCfg_eq])]
        exact (hagreed.withHandshake .streaming).streamImage addr width height
    · rw [writeImage_of_stuck hs hready, writeImage_of_stuck ht (hcontroller ▸ hready)]
      exact hagreed

theorem Alike.environmentActs (e : EnvEvent) : Alike (environmentActs e s) (Machine.environmentActs e t) := by
  cases e <;> rw [h.1] <;> exact ⟨rfl, h.2⟩

/-! ### Turns -/

theorem Alike.runRequest (r : Request) : SameOutcome Alike (runRequest r s) (Machine.runRequest r t) := by
  simp only [Machine.runRequest, blocked, h.view.cfg, h.controller_eq]
  split
  · exact .refused _
  · split
    · exact .fault _
    · exact h.exec _

theorem Alike.runProcedure {f : State → State} (hf : Alike (f s) (f t)) :
    SameOutcome Alike (runProcedure f s) (Machine.runProcedure f t) := by
  simp only [Machine.runProcedure, h.controller_eq]
  split
  · exact .fault _
  · exact .next hf

theorem Alike.step : SameOutcome Alike (step s) (Machine.step t) := by
  have hagenda : t.agenda = s.agenda := by rw [h.1]
  cases hs : s.agenda with
  | nil =>
    simp only [Machine.step, hagenda, hs]
    exact .next h
  | cons turn rest =>
    simp only [Machine.step, hagenda, hs]
    have htaken := alike_lockstep.turns h rest
    cases turn with
    | request r => exact htaken.runRequest r
    | negotiate addr fmt width height => exact htaken.runProcedure (htaken.negotiate addr fmt width height)
    | writeImage addr fmt width height => exact htaken.runProcedure (htaken.writeImage addr fmt width height)
    | environment e => exact .next (htaken.environmentActs e)

end

/-- Settles O59: alike engines step alike. -/
theorem unspecifiedStateIsUnobservable : Obligations.UnspecifiedStateIsUnobservable := by
  intro s t h
  have hstep := h.step
  generalize step s = os, step t = ot at hstep ⊢
  cases hstep with
  | @next s' t' h' =>
    refine ⟨?_, fun _ hf => (nomatch hf), fun _ hr => (nomatch hr)⟩
    rintro _ ⟨⟩
    exact ⟨t', rfl, h'⟩
  | fault f => exact ⟨fun _ hs => (nomatch hs), fun _ hf => hf, fun _ hr => (nomatch hr)⟩
  | refused r => exact ⟨fun _ hs => (nomatch hs), fun _ hf => (nomatch hf), fun _ hr => hr⟩

end Sys2Proof.Machine
end

section
/-! SUPPORT. RX_PROCESS: its loop turn by turn, and what it may be given to find (43_receive_and_decode.md R180; 20_memory.md R48). -/

namespace Sys2Proof.Machine

/-! ### The loop, one equation per end -/

/-- With the flag down the loop is over (R163). -/
theorem processLoop_of_not_ready {s : State} (h : s.rxReady = false) (gs : List (List RxEvent)) :
    processLoop gs s = { state := { s with between := gs }, outcomes := [], handed := [] } := by
  obtain ⟨-, hdecode⟩ := (rxDecode_cases s).resolve_right fun hattempt => by simp [h] at hattempt
  cases gs <;> simp only [processLoop, hdecode]

/-- With the flag up and no more from the producer there is one attempt (R180). -/
theorem processLoop_nil_of_ready {s : State} (h : s.rxReady = true) :
    processLoop [] s
      = { state := { afterDecode s (checkBuffer s) with between := [] }, outcomes := [(checkBuffer s).outcome s.cfg],
          handed := (checkBuffer s).handed } := by
  obtain ⟨-, hdecode⟩ := (rxDecode_cases s).resolve_left fun hidle => by simp [h] at hidle
  simp only [processLoop, hdecode]

/-- With the flag up the attempt is followed by the producer's events and the rest of the loop (R180, R48). -/
theorem processLoop_cons_of_ready {s : State} (h : s.rxReady = true) (g : List RxEvent) (gs : List (List RxEvent)) :
    processLoop (g :: gs) s
      = { state := (processLoop gs (rxEvents (afterDecode s (checkBuffer s)) g)).state,
          outcomes := (checkBuffer s).outcome s.cfg :: (processLoop gs (rxEvents (afterDecode s (checkBuffer s)) g)).outcomes,
          handed := (checkBuffer s).handed ++ (processLoop gs (rxEvents (afterDecode s (checkBuffer s)) g)).handed } := by
  obtain ⟨-, hdecode⟩ := (rxDecode_cases s).resolve_left fun hidle => by simp [h] at hidle
  simp only [processLoop, hdecode]

/-- What holds of every run of the loop (R180): it leaves the flag down, lists no NoFrame, at most one outcome more than there
were gaps, and one at least where the flag was up. -/
theorem processLoop_ends (gs : List (List RxEvent)) (s : State) :
    (processLoop gs s).state.rxReady = false ∧ DecodeOutcome.noFrame ∉ (processLoop gs s).outcomes
      ∧ (processLoop gs s).outcomes.length ≤ gs.length + 1 ∧ (s.rxReady = true → (processLoop gs s).outcomes ≠ []) := by
  induction gs generalizing s with
  | nil =>
    cases hready : s.rxReady with
    | false =>
      rw [processLoop_of_not_ready hready]
      exact ⟨hready, List.not_mem_nil, Nat.zero_le _, nofun⟩
    | true =>
      rw [processLoop_nil_of_ready hready]
      refine ⟨afterDecode_rxReady s (checkBuffer s), ?_, Nat.le_refl 1, fun _ => List.cons_ne_nil _ _⟩
      exact fun hmem => FrameCheck.outcome_ne_noFrame _ _ (List.mem_singleton.mp hmem).symm
  | cons g gs ih =>
    cases hready : s.rxReady with
    | false =>
      rw [processLoop_of_not_ready hready]
      exact ⟨hready, List.not_mem_nil, Nat.zero_le _, nofun⟩
    | true =>
      rw [processLoop_cons_of_ready hready]
      obtain ⟨hdown, hframe, hlength, -⟩ := ih (rxEvents (afterDecode s (checkBuffer s)) g)
      exact ⟨hdown, List.not_mem_cons_of_ne_of_not_mem (FrameCheck.outcome_ne_noFrame _ _).symm hframe, Nat.succ_le_succ hlength,
        fun _ => List.cons_ne_nil _ _⟩

/-! ### A quiet producer -/

theorem exec_rxProcess_of_not_ready {s : State} (h : s.rxReady = false) :
    exec .rxProcess s = .next (s.returning (.outcomes [])) := by
  simp only [exec, execRxProcess, processLoop_of_not_ready h]
  rfl

@[simp] theorem afterDecode_between (s : State) (f : FrameCheck) : (afterDecode s f).between = s.between := by
  cases f <;> rfl

@[simp] theorem afterDecode_agenda (s : State) (f : FrameCheck) : (afterDecode s f).agenda = s.agenda := by
  cases f <;> rfl

theorem exec_rxProcess_quiet {s : State} (hquiet : s.between = []) (h : s.rxReady = true) :
    exec .rxProcess s
      = .next ({ afterDecode s (checkBuffer s) with
                 agenda := (checkBuffer s).handed.map Turn.request ++ s.agenda }.returning
          (.outcomes [(checkBuffer s).outcome s.cfg])) := by
  have hplan : (afterDecode s (checkBuffer s)).between = [] := (afterDecode_between s _).trans hquiet
  simp only [exec, execRxProcess, hquiet, processLoop_nil_of_ready h]
  rw [afterDecode_agenda, hplan]

/-- Settles O33: with the flag down no iteration, with it up one attempt and its outcome. -/
theorem rxProcessQuietProducer : Obligations.RxProcessQuietProducer := by
  intro s hquiet
  exact ⟨exec_rxProcess_of_not_ready, fun hready =>
    ⟨_, _, exec_rxDecode_of_ready hready, returning_result _ _, exec_rxProcess_quiet hquiet hready⟩⟩

/-! ### A producer that acts in between -/

/-- The producer's plan and the last outcome are others. -/
def State.replan (s : State) (gs : List (List RxEvent)) (r : Option Returned) : State := { s with between := gs, result := r }

theorem rxEvents_replan (es : List RxEvent) (s : State) (gs : List (List RxEvent)) (r : Option Returned) :
    rxEvents (s.replan gs r) es = (rxEvents s es).replan gs r := by
  induction es generalizing s with
  | nil => rfl
  | cons e es ih =>
    have hfirst := rxEvent_comm (s := s) (f := (·.replan gs r)) rfl (fun _ => rfl) rfl rfl e
    calc rxEvents (s.replan gs r) (e :: es)
      _ = rxEvents ((rxEvent s e).replan gs r) es := congrArg (rxEvents · es) hfirst.symm
      _ = (rxEvents s (e :: es)).replan gs r := ih (rxEvent s e)

theorem afterDecode_replan (s : State) (gs : List (List RxEvent)) (r : Option Returned) (f : FrameCheck) :
    afterDecode (s.replan gs r) f = (afterDecode s f).replan gs r := by
  cases f <;> rfl

/-- The loop does not look at the plan in the state, which it overwrites, nor at the last outcome, which it keeps. -/
theorem processLoop_replan (gs : List (List RxEvent)) (s : State) (plan : List (List RxEvent)) (r : Option Returned) :
    processLoop gs (s.replan plan r)
      = { processLoop gs s with state := { (processLoop gs s).state with result := r } } := by
  have hcheck : ∀ u : State, checkBuffer (u.replan plan r) = checkBuffer u := fun _ => rfl
  induction gs generalizing s with
  | nil =>
    cases hready : s.rxReady with
    | false =>
      rw [processLoop_of_not_ready hready, processLoop_of_not_ready (s := s.replan plan r) hready]
      rfl
    | true =>
      rw [processLoop_nil_of_ready hready, processLoop_nil_of_ready (s := s.replan plan r) hready, hcheck, afterDecode_replan]
      rfl
  | cons g gs ih =>
    cases hready : s.rxReady with
    | false =>
      rw [processLoop_of_not_ready hready, processLoop_of_not_ready (s := s.replan plan r) hready]
      rfl
    | true =>
      rw [processLoop_cons_of_ready hready, processLoop_cons_of_ready (s := s.replan plan r) hready, hcheck, afterDecode_replan,
        rxEvents_replan, ih]
      rfl

/-- After an attempt RX_PROCESS goes on as it would from the state the producer's next events leave (R180, R48). -/
theorem exec_rxProcess_continues {s : State} {g : List RxEvent} {gs : List (List RxEvent)} (hplan : s.between = g :: gs)
    (hready : s.rxReady = true) (r : Option Returned) :
    ∃ u os, exec .rxProcess (rxEvents ((afterDecode s (checkBuffer s)).replan gs r) g) = .next u
      ∧ u.result = some (.outcomes os)
      ∧ exec .rxProcess s
          = .next { u with agenda := (checkBuffer s).handed.map Turn.request ++ u.agenda,
                           result := some (.outcomes ((checkBuffer s).outcome s.cfg :: os)) } := by
  have hrest := processLoop_replan gs (rxEvents (afterDecode s (checkBuffer s)) g) gs r
  refine ⟨_, (processLoop gs (rxEvents (afterDecode s (checkBuffer s)) g)).outcomes, rfl, ?outcomes, ?whole⟩
  case outcomes =>
    rw [rxEvents_replan]
    exact congrArg (fun c => some (Returned.outcomes c.outcomes)) hrest
  case whole =>
    have hbetween : ∀ u : State, (u.replan gs r).between = gs := fun _ => rfl
    simp only [exec, execRxProcess, hplan, processLoop_cons_of_ready hready, rxEvents_replan, hbetween, hrest,
      List.map_append, List.append_assoc]
    rfl

/-- Settles O34: every run of the loop ends alike, and its iterations can be taken one by one. -/
theorem rxProcessEnds : Obligations.RxProcessEnds := by
  intro s
  obtain ⟨hdown, hframe, hlength, hsome⟩ := processLoop_ends s.between s
  refine ⟨⟨_, _, rfl, rfl, hdown, hframe, hlength, hsome⟩, exec_rxProcess_of_not_ready, fun g gs hplan hready => ?_⟩
  obtain ⟨u, os, hrest, hos, hwhole⟩ :=
    exec_rxProcess_continues hplan hready (some (.decoded ((checkBuffer s).outcome s.cfg)))
  exact ⟨_, _, u, os, exec_rxDecode_of_ready hready, rfl, hrest, hos, hwhole⟩

/-! ### What the receive operations leave unchanged -/

/-- An attempt changes the flags and the count (R170). -/
theorem afterDecode_onlyDecoder (s : State) (f : FrameCheck) (o : Returned) : OnlyDecoder s ((afterDecode s f).returning o) := by
  cases f <;> rfl

/-- Settles O50: one byte at most is stored, at the count; an attempt stores nothing; the loop is made of both. -/
theorem receiveFrame : Obligations.ReceiveFrame := by
  intro s t
  refine ⟨fun b hexec => ?byte, fun hexec => ?boundary, fun hexec => ?decode, fun hexec => ⟨?process, fun hquiet => ?quiet⟩⟩
  case byte =>
    cases hexec
    refine ⟨rxEvent_frame s (.byte b), fun a ha => ?_⟩
    rcases rxByte_cases b s with ⟨-, h⟩ | ⟨-, h⟩ <;> rw [h]
    · exact readByte_writeByte_ne s.rxBuf b ha
    · rfl
  case boundary => cases hexec; exact ⟨rfl, rfl⟩
  case decode =>
    cases hready : s.rxReady with
    | false =>
      cases (exec_rxDecode_of_not_ready hready).symm.trans hexec
      rfl
    | true =>
      cases (exec_rxDecode_of_ready hready).symm.trans hexec
      exact afterDecode_onlyDecoder s _ _
  case process =>
    cases hexec
    obtain ⟨u, hchannel, hstate⟩ := processLoop_frame s.between s
    rw [hstate, hchannel]
    rfl
  case quiet =>
    cases hready : s.rxReady with
    | false =>
      cases (exec_rxProcess_of_not_ready hready).symm.trans hexec
      rfl
    | true =>
      cases (exec_rxProcess_quiet hquiet hready).symm.trans hexec
      exact afterDecode_rxBuf s (checkBuffer s)

end Sys2Proof.Machine
end

section
/-! SUPPORT. A step turn by turn (10_state.md R10; 60_exceptions.md R247), and RESET (70_reset_and_hazards.md section 1). -/

namespace Sys2Proof.Machine

/-! ### Turns -/

section
variable {s : State} {rest : List Turn}

theorem step_of_turn {turn : Turn} (h : s.agenda = turn :: rest) : step s = runTurn turn { s with agenda := rest } := by
  rw [step, h]

theorem step_of_empty (h : s.agenda = []) : step s = .next s := by
  rw [step, h]

/-- An instruction runs unless it is the controller's and the controller cannot step. -/
theorem runRequest_of_free {r : Request} {i : Instr} (hdecode : decode s.cfg.codes r = .ok i)
    (hfree : i.issuer = .controller → s.controller = .ready) : runRequest r s = exec i s := by
  have hrun : blocked i s = none := by
    rw [blocked]
    split
    · next hissuer => rw [hfree hissuer]; rfl
    · rfl
  simp only [runRequest, hdecode, hrun]

/-- A controller that cannot step makes its instructions a fault (R247). -/
theorem runRequest_of_stuck {r : Request} {i : Instr} {f : Fault} (hdecode : decode s.cfg.codes r = .ok i)
    (hissuer : i.issuer = .controller) (hstuck : s.controller.fault = some f) : runRequest r s = .fault f := by
  simp only [runRequest, hdecode, blocked, hissuer, if_true, hstuck]

theorem runProcedure_of_ready (h : s.controller = .ready) (f : State → State) : runProcedure f s = .next (f s) := by
  rw [runProcedure, h]
  rfl

theorem runProcedure_of_stuck {e : Fault} (hstuck : s.controller.fault = some e) (f : State → State) :
    runProcedure f s = .fault e := by
  rw [runProcedure, hstuck]

/-- What a sink that is to hang `more` bytes on is left with: the earlier of the two places (log 13). -/
theorem hangPoint_spec (s : State) (more : Nat) :
    hangPoint s more ≤ s.txOut.length + more ∧ (s.sinkHangsAt = none → hangPoint s more = s.txOut.length + more)
      ∧ ∀ m, s.sinkHangsAt = some m → hangPoint s more = min m (s.txOut.length + more) := by
  cases h : s.sinkHangsAt with
  | none => simp [hangPoint, h]
  | some n => simp [hangPoint, h]

end

/-- Settles O1: a turn is taken off and run, each kind by its own equation. -/
theorem stepRunsDecodedRequest : Obligations.StepRunsDecodedRequest := by
  intro s rest
  refine ⟨fun r i hturn hdecode hfree => ?request,
    fun addr fmt width height hready => ⟨fun hturn => ?negotiate, fun hturn => ?writeImage⟩,
    fun c hturn => step_of_turn hturn, fun samples hturn => step_of_turn hturn, fun more hturn => ?sink,
    fun groups hturn => step_of_turn hturn⟩
  case request => exact (step_of_turn hturn).trans (runRequest_of_free hdecode hfree)
  case negotiate => exact (step_of_turn hturn).trans (runProcedure_of_ready (s := { s with agenda := rest }) hready _)
  case writeImage => exact (step_of_turn hturn).trans (runProcedure_of_ready (s := { s with agenda := rest }) hready _)
  case sink => exact ⟨hangPoint s more, step_of_turn hturn, hangPoint_spec s more⟩

/-- Each way of being stuck has its fault (R247). -/
theorem fault_of_stuck {s : State} {f : Fault}
    (h : (s.controller = .waitingForPixels ∧ f = .pixelSourceShort) ∨ (s.controller = .waitingForSink ∧ f = .sinkNeverReturns)) :
    s.controller.fault = some f := by
  rcases h with ⟨h, rfl⟩ | ⟨h, rfl⟩ <;> rw [h] <;> rfl

/-- A controller that cannot step makes every turn of its thread a fault, an instruction's as much as a procedure's (R247). -/
theorem step_of_stuck {s : State} {f : Fault} (hstuck : s.controller.fault = some f) (rest : List Turn) :
    (∀ r i, s.agenda = .request r :: rest → decode s.cfg.codes r = .ok i → i.issuer = .controller → step s = .fault f)
      ∧ (∀ addr fmt width height, s.agenda = .negotiate addr fmt width height :: rest → step s = .fault f)
      ∧ ∀ addr fmt width height, s.agenda = .writeImage addr fmt width height :: rest → step s = .fault f :=
  ⟨fun _ _ hturn hdecode hissuer => (step_of_turn hturn).trans (runRequest_of_stuck hdecode hissuer hstuck),
    fun _ _ _ _ hturn => (step_of_turn hturn).trans (runProcedure_of_stuck (s := { s with agenda := rest }) hstuck _),
    fun _ _ _ _ hturn => (step_of_turn hturn).trans (runProcedure_of_stuck (s := { s with agenda := rest }) hstuck _)⟩

/-- Settles O2: nothing to do, nothing decoded, nothing that can run. -/
theorem stepStopsByName : Obligations.StepStopsByName := by
  intro s rest
  exact ⟨step_of_empty, fun r e hturn hdecode => step_of_undecodable hturn hdecode,
    fun f hstuck => step_of_stuck (fault_of_stuck hstuck) rest⟩

/-! ### RESET -/

theorem exec_reset_of_valid {s : State} (h : configValid s.cfgIn = true) : exec .reset s = .next s.engineReset := if_pos h

theorem exec_reset_of_invalid {s : State} (h : configValid s.cfgIn = false) :
    exec .reset s = .refused .invalidConfiguration := if_neg (by simp [h])

/-- Settles O46: the engine just reset; its port is not loaded and its channel not announced. -/
theorem resetResult : Obligations.ResetResult := by
  intro s hvalid
  exact ⟨s.engineReset, exec_reset_of_valid hvalid, rfl, rfl, rfl, rfl, rfl, rfl, rfl, rfl, rfl, rfl, rfl, rfl, rfl,
    exec_crcRead_of_not_loaded rfl, exec_rxDecode_of_not_ready rfl⟩

/-- The five inequalities of R6 say that the list of codes repeats none. -/
theorem CommandCodes.nodup_of_distinct {k : CommandCodes} (h : k.distinct = true) :
    [k.ack, k.formatSet, k.imageData, k.writeReg, k.readReg].Nodup := by
  simp only [CommandCodes.distinct, Bool.and_eq_true, bne_iff_ne] at h
  simp only [List.nodup_cons, List.mem_cons, List.not_mem_nil, or_false, not_or, not_false_eq_true, List.nodup_nil, and_true]
  tauto

/-- Settles O47: a valid configuration breaks none of the three constraints. -/
theorem invalidConfigurationIsRefused : Obligations.InvalidConfigurationIsRefused := by
  intro s k hbroken
  apply exec_reset_of_invalid
  by_contra hvalid
  simp only [configValid, Bool.not_eq_false, Bool.and_eq_true, decide_eq_true_eq] at hvalid
  obtain ⟨⟨hdistinct, hsize⟩, hchunk⟩ := hvalid
  rcases hbroken with hrepeated | hsmall | hnone
  · exact hrepeated (CommandCodes.nodup_of_distinct hdistinct)
  · exact Nat.not_lt_of_le hsize hsmall
  · exact Nat.not_lt_of_le hchunk hnone

end Sys2Proof.Machine
end

section
/-! SUPPORT. The encoder's writes that do not return, a payload in pieces, and what the encoder and the CRC port leave unchanged
(41_frame_encoder.md sections 2 and 3; 60_exceptions.md R247). -/

namespace Sys2Proof.Machine

/-! ### A write that does not return -/

theorem txBegin_hangs {s : State} {plen : Nat} (hidle : s.txState = .idle) (hfits : frameLength plen ≤ maxLength)
    (hsink : s.sinkReturnsAt 0 = false) (addr cmd : Byte) : txBegin addr cmd plen s = s.hanging .waitingForSink := by
  have hne : header s.cfg addr cmd plen ≠ [] := List.ne_nil_of_length_eq_add_one (header_length _ _ _ _)
  simp [txBegin, hidle, Nat.not_lt_of_le hfits, (writeReturns_of_ne_nil hne).trans hsink]

theorem txChunk_hangs {s : State} {bs : List Byte} (hopen : s.txState = .payload) (hfits : bs.length ≤ s.txRemain.toNat)
    (hne : bs ≠ []) (hsink : s.sinkReturnsAt 0 = false) : txChunk bs s = s.hanging .waitingForSink := by
  simp [txChunk, hopen, Nat.not_lt_of_le hfits, (writeReturns_of_ne_nil hne).trans hsink]

theorem txEnd_hangs {s : State} (hopen : s.txState = .payload) (hall : s.txRemain = 0) (hsink : s.sinkReturnsAt 0 = false) :
    txEnd s = s.hanging .waitingForSink := by
  have hne : enc16 s.cfg.endian s.txCrc ≠ [] := List.ne_nil_of_length_eq_add_one (enc16_length _ _)
  simp [txEnd, hopen, hall, (writeReturns_of_ne_nil hne).trans hsink]

/-- A composite goes no further than a write that does not return. -/
theorem andThen_hanging (s : State) (c : Controller) (f : State → State) : (s.hanging c).andThen f = s.hanging c :=
  andThen_of_not_ok (by simp) f

/-- TX_FRAME stops in the header's write. -/
theorem txFrame_hangs_in_header {s : State} {payload : List Byte} (hidle : s.txState = .idle)
    (hfits : frameLength payload.length ≤ maxLength) (hsink : s.sinkReturnsAt 0 = false) (addr cmd : Byte) :
    txFrame addr cmd payload s = s.hanging .waitingForSink := by
  rw [txFrame, txBegin_hangs hidle hfits hsink, andThen_hanging, andThen_hanging]

/-- TX_FRAME stops in the payload's write: the header is out. -/
theorem txFrame_hangs_in_payload {s : State} {payload : List Byte} (hidle : s.txState = .idle)
    (hfits : frameLength payload.length ≤ maxLength) (hheader : s.sinkReturnsAt 0 = true) (hne : payload ≠ [])
    (hsink : s.sinkReturnsAt 10 = false) (addr cmd : Byte) :
    txFrame addr cmd payload s = stuckInFrame s (header s.cfg addr cmd payload.length) payload.length := by
  have hchunk : txChunk payload ((s.openFrame addr cmd payload.length).returning .ok)
      = ((s.openFrame addr cmd payload.length).returning .ok).hanging .waitingForSink :=
    txChunk_hangs rfl (remain_ofNat hfits).ge hne (by simpa using hsink)
  rw [txFrame, txBegin_ok hidle hfits hheader, andThen_of_ok (returning_result _ .ok), hchunk, andThen_hanging]
  rfl

/-- TX_FRAME stops in the checksum's write: header and payload are out. -/
theorem txFrame_hangs_in_checksum {s : State} {payload : List Byte} (hidle : s.txState = .idle)
    (hfits : frameLength payload.length ≤ maxLength) (hheader : s.sinkReturnsAt 0 = true)
    (hpayload : payload = [] ∨ s.sinkReturnsAt 10 = true) (hsink : s.sinkReturnsAt (10 + payload.length) = false)
    (addr cmd : Byte) : txFrame addr cmd payload s = stuckInFrame s (frameBody s.cfg addr cmd payload) 0 := by
  have hwrite : writeReturns ((s.openFrame addr cmd payload.length).returning .ok) payload = true := by
    rcases hpayload with hnil | hreturns
    · subst hnil
      exact writeReturns_nil _
    · exact writeReturns_of_returns (by simpa using hreturns) payload
  have hchunk : txChunk payload ((s.openFrame addr cmd payload.length).returning .ok)
      = ((s.openFrame addr cmd payload.length).sendPayload payload).returning .ok :=
    txChunk_of_writeReturns rfl (remain_ofNat hfits).ge hwrite
  have hend : txEnd (((s.openFrame addr cmd payload.length).sendPayload payload).returning .ok)
      = (((s.openFrame addr cmd payload.length).sendPayload payload).returning .ok).hanging .waitingForSink :=
    txEnd_hangs rfl (BitVec.sub_self _) (by simpa using hsink)
  rw [txFrame, txBegin_ok hidle hfits hheader, andThen_of_ok (returning_result _ .ok), hchunk,
    andThen_of_ok (returning_result _ .ok), hend]
  simp [stuckInFrame, State.hanging, State.returning, State.sendPayload, State.openFrame, State.emit, frameBody,
    crc16Update_append]

/-! ### A payload in pieces -/

/-- In an open frame two chunks that fit at the front of a program may be joined: the second outcome overwrites the first. -/
theorem runAll_join_txChunks {s : State} {as bs : List Byte} (hopen : s.txState = .payload)
    (hfits : (as ++ bs).length ≤ s.txRemain.toNat) (hsink : s.sinkReturnsAt (as ++ bs).length = true) (is : List Instr) :
    runAll (.txChunk as :: .txChunk bs :: is) s = runAll (.txChunk (as ++ bs) :: is) s := by
  have hreturns : s.sinkReturnsAt 0 = true := sinkReturnsAt_mono (Nat.zero_le _) hsink
  have hlength := List.length_append (as := as) (bs := bs)
  have hfirst : txChunk as s = (s.sendPayload as).returning .ok := txChunk_ok hopen (by omega) hreturns
  have hsecond : txChunk bs ((s.sendPayload as).returning .ok) = ((s.sendPayload as).sendPayload bs).returning .ok := by
    refine txChunk_ok hopen ?_ ?_
    · rw [returning_txRemain, sendPayload_txRemain, remain_sub (by omega)]
      omega
    · rw [sinkReturnsAt_returning, sinkReturnsAt_sendPayload]
      exact sinkReturnsAt_mono (by omega) hsink
  have hwhole : txChunk (as ++ bs) s = (s.sendPayload (as ++ bs)).returning .ok := txChunk_ok hopen hfits hreturns
  simp only [runAll, exec, execTxChunk, hfirst, hsecond, hwhole, sendPayload_append]

/-- In an open frame the pieces of a sequence are one chunk of the whole: join them from the front (R116). -/
theorem runAll_txChunks {s : State} (as : List Byte) (pieces : List (List Byte)) (is : List Instr) (hopen : s.txState = .payload)
    (hfits : (as ++ pieces.flatten).length ≤ s.txRemain.toNat) (hsink : s.sinkReturnsAt (as ++ pieces.flatten).length = true) :
    runAll (.txChunk as :: (pieces.map Instr.txChunk ++ is)) s = runAll (.txChunk (as ++ pieces.flatten) :: is) s := by
  induction pieces generalizing as with
  | nil => simp only [List.map_nil, List.nil_append, List.flatten_nil, List.append_nil]
  | cons bs pieces ih =>
    rw [List.flatten_cons, ← List.append_assoc] at hfits hsink ⊢
    have hpart : (as ++ bs).length ≤ (as ++ bs ++ pieces.flatten).length :=
      List.length_append (as := as ++ bs) ▸ Nat.le_add_right _ _
    calc runAll (.txChunk as :: ((bs :: pieces).map Instr.txChunk ++ is)) s
      _ = runAll (.txChunk (as ++ bs) :: (pieces.map Instr.txChunk ++ is)) s :=
        runAll_join_txChunks hopen (hpart.trans hfits) (sinkReturnsAt_mono hpart hsink) _
      _ = runAll (.txChunk (as ++ bs ++ pieces.flatten) :: is) s := ih (as ++ bs) hfits hsink

/-- An empty chunk right after another step of the frame changes nothing (R115). -/
theorem txChunk_nil_of_returning {s : State} (hopen : s.txState = .payload) :
    txChunk [] (s.returning .ok) = s.returning .ok := by
  have h := txChunk_of_writeReturns (s := s.returning .ok) (bs := []) hopen (Nat.zero_le _) (writeReturns_nil _)
  rw [h, sendPayload_nil]
  rfl

/-- Settles O20: after the header the pieces, an empty one put in front, join to the one chunk TX_FRAME sends. -/
theorem piecesDoNotShow : Obligations.PiecesDoNotShow := by
  intro s addr cmd pieces hsend
  have ⟨hidle, hfits, hsink⟩ := hsend
  generalize hopened : s.openFrame addr cmd pieces.flatten.length = opened
  have hbegin : exec (.txBegin addr cmd pieces.flatten.length) s = .next (opened.returning .ok) :=
    hopened ▸ congrArg Host.Outcome.next (txBegin_ok hidle hfits (sinkReturnsAt_mono (Nat.zero_le _) hsink) addr cmd)
  have hopen : opened.txState = .payload := by rw [← hopened]; rfl
  have hroom : pieces.flatten.length ≤ opened.txRemain.toNat := by
    rw [← hopened]
    exact (remain_ofNat hfits).ge
  have hreturns : opened.sinkReturnsAt pieces.flatten.length = true := by
    rw [← hopened, sinkReturnsAt_openFrame]
    exact hsink
  have hchunk : txChunk pieces.flatten (opened.returning .ok) = (opened.sendPayload pieces.flatten).returning .ok :=
    txChunk_ok hopen hroom (sinkReturnsAt_mono (Nat.zero_le _) hreturns)
  have hend : txEnd ((opened.sendPayload pieces.flatten).returning .ok)
      = (opened.sendPayload pieces.flatten).closeFrame.returning .ok := by
    refine txEnd_ok hopen ?_ (by simpa using hreturns)
    rw [← hopened]
    exact BitVec.sub_self _
  calc runAll (txPieces addr cmd pieces) s
    _ = runAll (pieces.map Instr.txChunk ++ [.txEnd]) (opened.returning .ok) := by
      simp only [txPieces, List.cons_append, runAll, hbegin]
    _ = runAll (.txChunk [] :: (pieces.map Instr.txChunk ++ [.txEnd])) (opened.returning .ok) := by
      simp only [runAll, exec, execTxChunk, txChunk_nil_of_returning hopen]
    _ = runAll [.txChunk pieces.flatten, .txEnd] (opened.returning .ok) :=
      runAll_txChunks [] pieces [.txEnd] hopen hroom hreturns
    _ = .next ((opened.sendPayload pieces.flatten).closeFrame.returning .ok) := by
      simp only [runAll, exec, execTxChunk, execTxEnd, hchunk, hend]
    _ = exec (.txFrame addr cmd pieces.flatten) s := by
      rw [← hopened]
      exact congrArg Host.Outcome.next (txFrame_ok hsend addr cmd).symm

/-! ### What the encoder and the CRC port leave unchanged -/

theorem OnlyEncoder.trans {s t u : State} (h : OnlyEncoder s t) (k : OnlyEncoder t u) : OnlyEncoder s u := by
  rw [OnlyEncoder, k, h]

theorem OnlyEncoder.andThen {s t : State} {f : State → State} (h : OnlyEncoder s t) (k : OnlyEncoder t (f t)) :
    OnlyEncoder s (t.andThen f) := by
  rcases andThen_cases t f with ⟨-, e⟩ | ⟨-, e⟩ <;> rw [e]
  · exact h.trans k
  · exact h

theorem txBegin_onlyEncoder (addr cmd : Byte) (plen : Nat) (s : State) : OnlyEncoder s (txBegin addr cmd plen s) := by
  rcases txBegin_cases addr cmd plen s with ⟨-, h⟩ | ⟨-, -, h⟩ | ⟨-, -, -, h⟩ | ⟨-, -, -, h⟩ <;> rw [h] <;> rfl

theorem txChunk_onlyEncoder (bs : List Byte) (s : State) : OnlyEncoder s (txChunk bs s) := by
  rcases txChunk_cases bs s with ⟨-, h⟩ | ⟨-, -, h⟩ | ⟨-, -, -, h⟩ | ⟨-, -, -, h⟩ <;> rw [h] <;> rfl

theorem txEnd_onlyEncoder (s : State) : OnlyEncoder s (txEnd s) := by
  rcases txEnd_cases s with ⟨-, h⟩ | ⟨-, -, h⟩ | ⟨-, -, -, h⟩ | ⟨-, -, -, h⟩ <;> rw [h] <;> rfl

theorem txFrame_onlyEncoder (addr cmd : Byte) (payload : List Byte) (s : State) :
    OnlyEncoder s (txFrame addr cmd payload s) :=
  ((txBegin_onlyEncoder addr cmd payload.length s).andThen (txChunk_onlyEncoder payload _)).andThen (txEnd_onlyEncoder _)

/-- Settles O48: end by end of each step; composites are steps one after the other. -/
theorem crcAndEncoderFrame : Obligations.CrcAndEncoderFrame := by
  refine ⟨fun i s t hport hexec => ?port, fun s t a b c v w n bs hexec => ?encoder⟩
  case port =>
    cases i with
    | crcLoad => cases hexec; rfl
    | crcByte | crcBlock | crcRead =>
      simp only [exec, execCrcByte, execCrcBlock, execCrcRead] at hexec
      split at hexec <;> cases hexec <;> rfl
    | txBegin | txChunk | txEnd | txFrame | txAck | txFormatSet | txImage | rxByte | rxBoundary | rxDecode | rxProcess | reset
    | ack | formatSet | imageData | writeRegister | readRegister | unknown => exact nomatch hport
  case encoder =>
    rcases hexec with ⟨⟨⟩⟩ | ⟨⟨⟩⟩ | ⟨⟨⟩⟩ | ⟨⟨⟩⟩ | ⟨⟨⟩⟩ | ⟨⟨⟩⟩
    · exact txBegin_onlyEncoder a b n s
    · exact txChunk_onlyEncoder bs s
    · exact txEnd_onlyEncoder s
    · exact txFrame_onlyEncoder a b bs s
    · exact txFrame_onlyEncoder _ _ _ s
    · exact txFrame_onlyEncoder _ _ _ s

end Sys2Proof.Machine
end

section
/-! SUPPORT. The loop of TX_IMAGE: what is out after so many whole chunks, and the three ways on from there: the checksum, a write
that does not return, a source that runs short (42_chunker.md R141 to R149; 60_exceptions.md R247). -/

namespace Sys2Proof.Machine

/-! ### One turn of the loop -/

theorem samplesBytes_take_length (e : WireEndian) {qs : List Half} {n : Nat} (h : n ≤ qs.length) :
    (samplesBytes e (qs.take n)).length = 2 * n := by
  rw [samplesBytes_length, List.length_take_of_le h]

/-- The next scanline is pulled from the FIFO and stored in the chunk buffer (R141, R143). -/
def State.pullLine (s : State) (height : Nat) : State := (s.dropPixels height).fillChunk (s.pixels.take height)

section
variable {s : State} {height : Nat} (hwf : s.chunkBuf.wf = true) (henough : height ≤ s.pixels.length)
include hwf henough

/-- With the samples at hand a turn sends the scanline (R141). -/
theorem imageChunk_of_enough :
    imageChunk height s = txChunk (samplesBytes s.cfg.endian (s.pixels.take height)) (s.pullLine height) := by
  obtain ⟨-, h⟩ := (imageChunk_cases height s).resolve_left fun ⟨hshort, _⟩ => Nat.not_lt_of_le henough hshort
  rw [h, chunk_read_back hwf henough]
  rfl

theorem imageChunk_ok (hopen : s.txState = .payload) (hfits : 2 * height ≤ s.txRemain.toNat)
    (hsink : 0 < height → s.sinkReturnsAt 0 = true) :
    imageChunk height s
      = ((s.pullLine height).sendPayload (samplesBytes s.cfg.endian (s.pixels.take height))).returning .ok := by
  have hlength := samplesBytes_take_length s.cfg.endian henough
  have hwrite : writeReturns (s.pullLine height) (samplesBytes s.cfg.endian (s.pixels.take height)) = true := by
    rcases Nat.eq_zero_or_pos height with hzero | hpos
    · rw [List.eq_nil_of_length_eq_zero (hlength.trans (by rw [hzero])), writeReturns_nil]
    · exact writeReturns_of_returns (s := s.pullLine height) (hsink hpos) _
  rw [imageChunk_of_enough hwf henough,
    txChunk_of_writeReturns (s := s.pullLine height) hopen (hlength.trans_le hfits) hwrite]

theorem imageChunk_hangs (hopen : s.txState = .payload) (hfits : 2 * height ≤ s.txRemain.toNat) (hpos : 0 < height)
    (hsink : s.sinkReturnsAt 0 = false) : imageChunk height s = (s.pullLine height).hanging .waitingForSink := by
  have hlength := samplesBytes_take_length s.cfg.endian henough
  have hne : samplesBytes s.cfg.endian (s.pixels.take height) ≠ [] := List.ne_nil_of_length_pos (by omega)
  rw [imageChunk_of_enough hwf henough,
    txChunk_hangs (s := s.pullLine height) hopen (hlength.trans_le hfits) hne hsink]

end

theorem imageChunk_short {s : State} {height : Nat} (hshort : s.pixels.length < height) :
    imageChunk height s = s.hanging .waitingForPixels := if_pos hshort

/-! ### Turns one after the other -/

/-- `k + m` turns are `k` turns and then `m`. -/
theorem imageChunks_add (height k m : Nat) {s : State} (hok : s.result = some .ok) :
    imageChunks height (k + m) s = (imageChunks height k s).andThen (imageChunks height m) := by
  induction k generalizing s with
  | zero => rw [Nat.zero_add, imageChunks, andThen_of_ok hok]
  | succ k ih =>
    rw [Nat.succ_add, imageChunks, imageChunks]
    by_cases hfirst : (imageChunk height s).result = some .ok
    · rw [andThen_of_ok hfirst, andThen_of_ok hfirst, ih hfirst]
    · rw [andThen_of_not_ok hfirst, andThen_of_not_ok hfirst, andThen_of_not_ok hfirst]

theorem imageChunks_one (height : Nat) (s : State) : imageChunks height 1 s = imageChunk height s := by
  rcases andThen_cases (imageChunk height s) (imageChunks height 0) with ⟨-, h⟩ | ⟨-, h⟩ <;> rw [imageChunks, h]
  rfl

/-- Where a turn does not return Ok the loop ends with it. -/
theorem imageChunks_of_stop {height k width : Nat} {s : State} (hok : s.result = some .ok) (hk : k < width)
    (hsent : (imageChunks height k s).result = some .ok)
    (hstop : (imageChunk height (imageChunks height k s)).result ≠ some .ok) :
    imageChunks height width s = imageChunk height (imageChunks height k s) := by
  obtain ⟨m, rfl⟩ := Nat.exists_eq_add_of_lt hk
  rw [Nat.add_assoc, imageChunks_add height k (m + 1) hok, andThen_of_ok hsent, imageChunks, andThen_of_not_ok hstop]

/-- From `s` to `t` exactly `k` scanlines have gone out, in stream order, the last of which is in the chunk buffer (R144). -/
structure ScanlinesSent (height k : Nat) (s t : State) : Prop where
  state : t = { s.sendPayload (samplesBytes s.cfg.endian (s.pixels.take (k * height))) with
                pixels := s.pixels.drop (k * height), chunkBuf := t.chunkBuf, result := some .ok }
  wf : t.chunkBuf.wf = true
  above : ∀ a, 2 * height ≤ a → readByte t.chunkBuf a = readByte s.chunkBuf a
  untouched : k = 0 → t.chunkBuf = s.chunkBuf
  last : 0 < k → readBytes t.chunkBuf 0 (2 * height)
      = samplesBytes s.cfg.endian ((s.pixels.drop ((k - 1) * height)).take height)

namespace ScanlinesSent
variable {height k : Nat} {s t : State} (h : ScanlinesSent height k s t)
include h

theorem cfg : t.cfg = s.cfg := by rw [h.state]; rfl
theorem result : t.result = some .ok := by rw [h.state]
theorem txState : t.txState = s.txState := by rw [h.state]; rfl
theorem pixels : t.pixels = s.pixels.drop (k * height) := by rw [h.state]

variable (henough : k * height ≤ s.pixels.length)
include henough

theorem txRemain (hfits : 2 * (k * height) ≤ s.txRemain.toNat) : t.txRemain.toNat = s.txRemain.toNat - 2 * (k * height) := by
  have hlength := samplesBytes_take_length s.cfg.endian henough
  rw [h.state]
  exact (remain_sub (hlength.trans_le hfits)).trans (by rw [hlength])

theorem sinkReturnsAt (j : Nat) : t.sinkReturnsAt j = s.sinkReturnsAt (2 * (k * height) + j) := by
  rw [← samplesBytes_take_length s.cfg.endian henough, ← sinkReturnsAt_sendPayload, h.state]
  rfl

end ScanlinesSent

/-- No scanline yet. -/
theorem scanlinesSent_zero (height : Nat) {s : State} (hok : s.result = some .ok) (hwf : s.chunkBuf.wf = true) :
    ScanlinesSent height 0 s s := by
  refine ⟨?state, hwf, fun _ _ => rfl, fun _ => rfl, nofun⟩
  case state =>
    rw [Nat.zero_mul, List.take_zero, samplesBytes, sendPayload_nil, List.drop_zero, ← hok]

/-- One more scanline behind `k` (R144). -/
theorem ScanlinesSent.succ {height k : Nat} {s t : State} (h : ScanlinesSent height k s t)
    (henough : height ≤ t.pixels.length) :
    ScanlinesSent height (k + 1) s
      (((t.pullLine height).sendPayload (samplesBytes t.cfg.endian (t.pixels.take height))).returning .ok) := by
  have hlength := samplesBytes_take_length t.cfg.endian henough
  have hcfg := h.cfg
  have hpixels := h.pixels
  refine ⟨?state, writeBytes_wf h.wf 0 _, fun a ha => ?above, nofun, fun _ => ?last⟩
  case state =>
    rw [Nat.succ_mul, List.take_add, samplesBytes_append, sendPayload_append, ← List.drop_drop, ← hpixels, ← hcfg]
    obtain ⟨hstate, -⟩ := h
    generalize t.chunkBuf = buf at hstate
    subst hstate
    rfl
  case above => exact (readByte_writeBytes_outside _ (.inr (by rw [Nat.zero_add]; exact hlength.trans_le ha))).trans (h.above a ha)
  case last =>
    rw [Nat.add_sub_cancel, ← hpixels, ← hcfg, ← hlength]
    exact readBytes_writeBytes h.wf 0 _

/-- With samples, payload and sink at hand the loop sends scanline after scanline (R144). -/
theorem imageChunks_sent {height k : Nat} {s : State} (hok : s.result = some .ok) (hwf : s.chunkBuf.wf = true)
    (hopen : s.txState = .payload) (hfits : 2 * (k * height) ≤ s.txRemain.toNat) (henough : k * height ≤ s.pixels.length)
    (hsink : ∀ j < k, 0 < height → s.sinkReturnsAt (2 * (j * height)) = true) :
    ScanlinesSent height k s (imageChunks height k s) := by
  induction k with
  | zero => exact scanlinesSent_zero height hok hwf
  | succ k ih =>
    rw [Nat.succ_mul k height] at hfits henough
    have hbefore := ih (by omega) (by omega) fun j hj => hsink j (by omega)
    have hleft : height ≤ (imageChunks height k s).pixels.length := by
      rw [hbefore.pixels, List.length_drop]
      omega
    have hroom : 2 * height ≤ (imageChunks height k s).txRemain.toNat := by
      rw [hbefore.txRemain (by omega) (by omega)]
      omega
    have hreturns : 0 < height → (imageChunks height k s).sinkReturnsAt 0 = true := fun hpos => by
      rw [hbefore.sinkReturnsAt (by omega)]
      exact hsink k (Nat.lt_succ_self k) hpos
    rw [imageChunks_add height k 1 hok, andThen_of_ok hbefore.result, imageChunks_one,
      imageChunk_ok hbefore.wf hleft (hbefore.txState.trans hopen) hroom hreturns]
    exact hbefore.succ hleft

end Sys2Proof.Machine
end

section
/-! SUPPORT. How a TX_IMAGE that passed its tests ends: with the whole frame, in a write that does not return, or without samples
(42_chunker.md R141 to R149; 60_exceptions.md R247). -/

namespace Sys2Proof.Machine

/-! ### From the header on -/

/-- TX_IMAGE passes its tests (R237). -/
structure TakesImage (s : State) (width height : Half) : Prop where
  ready : s.captureReady = true
  idle : s.txState = .idle
  fits : frameLength (width.toNat * height.toNat * 2) ≤ maxLength
  chunk : 2 * height.toNat ≤ s.cfg.chunkMax

/-- The header of an image of `plen` payload bytes is out (R113). -/
def State.openImage (s : State) (addr : Byte) (plen : Nat) : State :=
  (s.openFrame addr s.cfg.codes.imageData plen).returning .ok

namespace TakesImage
variable {s : State} {width height : Half} (h : TakesImage s width height)
include h

theorem hangs_in_header (hsink : s.sinkReturnsAt 0 = false) (addr : Byte) :
    txImage addr width height s = s.hanging .waitingForSink := by
  rw [txImage_of_accepted h.ready h.idle h.fits h.chunk, txBegin_hangs h.idle h.fits hsink, andThen_hanging, andThen_hanging,
    andThen_hanging]

theorem goes_on (hsink : s.sinkReturnsAt 0 = true) (addr : Byte) :
    txImage addr width height s
      = ((imageChunks height.toNat width.toNat (s.openImage addr (width.toNat * height.toNat * 2))).andThen txEnd).andThen
          State.signalConsumed := by
  rw [txImage_of_accepted h.ready h.idle h.fits h.chunk, txBegin_ok h.idle h.fits hsink, andThen_of_ok (returning_result _ .ok)]
  rfl

/-- The first `k` scanlines go out as long as there are samples and the sink returns (R141). -/
theorem sent {k : Nat} (hwf : s.chunkBuf.wf = true) (hk : k ≤ width.toNat) (henough : k * height.toNat ≤ s.pixels.length)
    (hreturns : ChunksReturn s height.toNat k) (addr : Byte) :
    ScanlinesSent height.toNat k (s.openImage addr (width.toNat * height.toNat * 2))
      (imageChunks height.toNat k (s.openImage addr (width.toNat * height.toNat * 2))) := by
  have hpart : k * height.toNat ≤ width.toNat * height.toNat := Nat.mul_le_mul_right _ hk
  have hremain : (s.openImage addr (width.toNat * height.toNat * 2)).txRemain.toNat = width.toNat * height.toNat * 2 :=
    remain_ofNat h.fits
  refine imageChunks_sent rfl hwf rfl (by omega) henough fun j hj hpos => ?_
  have hline : 10 + 2 * height.toNat * j = 10 + 2 * (j * height.toNat) := by ring
  rw [State.openImage, sinkReturnsAt_returning, sinkReturnsAt_openFrame, ← hline]
  exact hreturns.2 j hj hpos

/-- Where the turn after `k` scanlines does not return, TX_IMAGE does not (R247). -/
theorem stops_in_turn {k : Nat} {u : State} {c : Controller} {addr : Byte} (hk : k < width.toNat) (hsink : s.sinkReturnsAt 0 = true)
    (hsent : ScanlinesSent height.toNat k (s.openImage addr (width.toNat * height.toNat * 2))
      (imageChunks height.toNat k (s.openImage addr (width.toNat * height.toNat * 2))))
    (hstop : imageChunk height.toNat (imageChunks height.toNat k (s.openImage addr (width.toNat * height.toNat * 2)))
      = u.hanging c) : txImage addr width height s = u.hanging c := by
  rw [h.goes_on hsink, imageChunks_of_stop rfl hk hsent.result (by rw [hstop, hanging_result]; nofun), hstop, andThen_hanging,
    andThen_hanging]

end TakesImage

/-- The chunks' share of the payload and what is left of it (R144). -/
theorem payload_split {k width : Nat} (hk : k ≤ width) (height : Nat) :
    width * height * 2 = 2 * (k * height) + (width - k) * height * 2 := by
  obtain ⟨m, rfl⟩ := Nat.exists_eq_add_of_le hk
  rw [Nat.add_sub_cancel_left]
  ring

/-- A controller left in a write after `k` scanlines: header and scanlines are out and the frame is open (R247 a). -/
theorem ScanlinesSent.hanging_eq {height k plen left : Nat} {s u : State} {addr : Byte}
    (h : ScanlinesSent height k (s.openImage addr plen) u) (hplen : plen = 2 * (k * height) + left)
    (henough : k * height ≤ s.pixels.length) :
    u.hanging .waitingForSink
      = { stuckInFrame s (header s.cfg addr s.cfg.codes.imageData plen
              ++ samplesBytes s.cfg.endian (s.pixels.take (k * height))) left with
          pixels := s.pixels.drop (k * height), chunkBuf := u.chunkBuf } := by
  have hlength := samplesBytes_take_length s.cfg.endian henough
  have hremain : BitVec.ofNat 32 plen - BitVec.ofNat 32 (samplesBytes s.cfg.endian (s.pixels.take (k * height))).length
      = BitVec.ofNat 32 left := by
    rw [hplen, hlength, BitVec.ofNat_add, add_sub_cancel_left]
  obtain ⟨hstate, -⟩ := h
  generalize u.chunkBuf = buf at hstate ⊢
  subst hstate
  simp only [stuckInFrame, crc16Update_append, ← hremain, ← List.append_assoc]
  rfl

/-- What the encoder and the sink are at after `k` scanlines of an image. -/
theorem ScanlinesSent.encoder {height k plen left : Nat} {s u : State} {addr : Byte}
    (h : ScanlinesSent height k (s.openImage addr plen) u) (hplen : plen = 2 * (k * height) + left)
    (hfits : frameLength plen ≤ maxLength) (henough : k * height ≤ s.pixels.length) :
    u.txState = .payload ∧ u.txRemain.toNat = left ∧ u.sinkReturnsAt 0 = s.sinkReturnsAt (10 + 2 * height * k) := by
  have hopened : (s.openImage addr plen).txRemain.toNat = plen := remain_ofNat hfits
  refine ⟨h.txState, ?remain, ?sink⟩
  case remain =>
    rw [h.txRemain henough (by omega)]
    omega
  case sink =>
    rw [h.sinkReturnsAt henough, State.openImage, sinkReturnsAt_returning, sinkReturnsAt_openFrame]
    congr 1
    ring

/-! ### A write that does not return -/

namespace TakesImage
variable {s : State} {width height : Half} (h : TakesImage s width height) {k : Nat}
include h

/-- TX_IMAGE stops in the write of the chunk after `k` scanlines, whose samples are pulled. -/
theorem hangs_in_chunk (hwf : s.chunkBuf.wf = true) (hk : k < width.toNat) (hpos : 0 < height.toNat)
    (henough : (k + 1) * height.toNat ≤ s.pixels.length) (hreturns : ChunksReturn s height.toNat k) (hsink : s.sinkReturnsAt (10 + 2 * height.toNat * k) = false) (addr : Byte) :
    ∃ buf, txImage addr width height s
      = { stuckInFrame s (header s.cfg addr s.cfg.codes.imageData (width.toNat * height.toNat * 2)
              ++ samplesBytes s.cfg.endian (s.pixels.take (k * height.toNat))) ((width.toNat - k) * height.toNat * 2) with
          pixels := s.pixels.drop ((k + 1) * height.toNat), chunkBuf := buf } := by
  have hsucc : (k + 1) * height.toNat = k * height.toNat + height.toNat := Nat.succ_mul k height.toNat
  have hbefore : k * height.toNat ≤ s.pixels.length := by omega
  have hline : height.toNat ≤ (width.toNat - k) * height.toNat := Nat.le_mul_of_pos_left _ (by omega)
  have hsplit := payload_split hk.le height.toNat
  have hsent := h.sent hwf hk.le hbefore hreturns addr
  obtain ⟨hopen, hremain, hreturnsAt⟩ := hsent.encoder hsplit h.fits hbefore
  have hpixels := hsent.pixels
  have hleft : height.toNat ≤ (s.pixels.drop (k * height.toNat)).length := by
    rw [List.length_drop]
    omega
  have hstop := imageChunk_hangs hsent.wf (hpixels ▸ hleft) hopen (by omega) hpos (hreturnsAt.trans hsink)
  have hstuck := hsent.hanging_eq hsplit hbefore
  have hdrop : (s.pixels.drop (k * height.toNat)).drop height.toNat = s.pixels.drop ((k + 1) * height.toNat) := by
    rw [List.drop_drop, hsucc]
  rw [h.stops_in_turn hk hreturns.1 hsent hstop]
  clear hsent hstop
  generalize imageChunks height.toNat k _ = u at hstuck hpixels ⊢
  refine ⟨(u.pullLine height.toNat).chunkBuf, ?_⟩
  rw [← hdrop, ← show u.pixels = s.pixels.drop (k * height.toNat) from hpixels]
  exact congrArg (fun v : State => { v with pixels := u.pixels.drop height.toNat, chunkBuf := (u.pullLine height.toNat).chunkBuf })
    hstuck

/-- TX_IMAGE stops in the checksum's write: the header and every scanline are out. -/
theorem hangs_in_checksum (hwf : s.chunkBuf.wf = true) (henough : width.toNat * height.toNat ≤ s.pixels.length)
    (hreturns : ChunksReturn s height.toNat width.toNat) (hsink : s.sinkReturnsAt (10 + 2 * height.toNat * width.toNat) = false)
    (addr : Byte) :
    ∃ buf, txImage addr width height s
      = { stuckInFrame s (header s.cfg addr s.cfg.codes.imageData (width.toNat * height.toNat * 2)
              ++ samplesBytes s.cfg.endian (s.pixels.take (width.toNat * height.toNat))) 0 with
          pixels := s.pixels.drop (width.toNat * height.toNat), chunkBuf := buf } := by
  have hsplit : width.toNat * height.toNat * 2 = 2 * (width.toNat * height.toNat) + 0 := by omega
  have hsent := h.sent hwf (Nat.le_refl _) henough hreturns addr
  obtain ⟨hopen, hremain, hreturnsAt⟩ := hsent.encoder hsplit h.fits henough
  have hend := txEnd_hangs hopen (BitVec.eq_of_toNat_eq hremain) (hreturnsAt.trans hsink)
  refine ⟨_, Eq.trans ?_ (hsent.hanging_eq hsplit henough)⟩
  rw [h.goes_on hreturns.1, andThen_of_ok hsent.result, hend, andThen_hanging]

end TakesImage

/-- Settles O21: each write by its own equation; TX_ACK and TX_FORMATSET are TX_FRAME. -/
theorem hungSinkStopsTheController : Obligations.HungSinkStopsTheController := by
  intro s addr cmd y v w payload stuck
  refine ⟨fun hsink => ⟨fun hidle hfits => ⟨?begin, ?frame⟩, fun hidle => ⟨?ack, ?formatSet⟩, fun hidle hready hfits hchunk => ?image,
    fun hopen hne hfits => ?chunk, fun hopen hall => ?fin⟩,
    fun hidle hfits hheader => ⟨fun hne hsink => ?payload, fun hreturns hsink => ?checksum⟩,
    fun k hidle hready hfits hchunk hwf hk hpos henough hreturns hsink => ?line⟩
  case begin => exact congrArg Host.Outcome.next (txBegin_hangs hidle hfits hsink addr cmd)
  case frame => exact congrArg Host.Outcome.next (txFrame_hangs_in_header hidle hfits hsink addr cmd)
  case ack =>
    have hsmall : frameLength (ackPayload s.cfg.endian cmd v y).length ≤ maxLength := by
      rw [ackPayload_length]
      decide
    exact congrArg Host.Outcome.next (txFrame_hangs_in_header hidle hsmall hsink addr _)
  case formatSet =>
    have hsmall : frameLength (formatSetPayload s.cfg.endian cmd v w).length ≤ maxLength := by
      rw [formatSetPayload_length]
      decide
    exact congrArg Host.Outcome.next (txFrame_hangs_in_header hidle hsmall hsink addr _)
  case image => exact congrArg Host.Outcome.next (TakesImage.hangs_in_header ⟨hready, hidle, hfits, hchunk⟩ hsink addr)
  case chunk => exact congrArg Host.Outcome.next (txChunk_hangs hopen hfits hne hsink)
  case fin => exact congrArg Host.Outcome.next (txEnd_hangs hopen hall hsink)
  case payload => exact congrArg Host.Outcome.next (txFrame_hangs_in_payload hidle hfits hheader hne hsink addr cmd)
  case checksum => exact congrArg Host.Outcome.next (txFrame_hangs_in_checksum hidle hfits hheader hreturns hsink addr cmd)
  case line =>
    have himage : TakesImage s v w := ⟨hready, hidle, hfits, hchunk⟩
    intro out
    rcases Nat.lt_or_eq_of_le hk with hlt | rfl
    · rw [Nat.min_eq_left hlt] at henough ⊢
      obtain ⟨buf, hstuck⟩ := himage.hangs_in_chunk hwf hlt (hpos hlt) henough hreturns hsink addr
      exact ⟨buf, congrArg Host.Outcome.next hstuck⟩
    · rw [Nat.min_eq_right (Nat.le_succ _)] at henough ⊢
      obtain ⟨buf, hstuck⟩ := himage.hangs_in_checksum hwf henough hreturns hsink addr
      refine ⟨buf, (congrArg Host.Outcome.next hstuck).trans ?_⟩
      rw [Nat.sub_self, Nat.zero_mul, Nat.zero_mul]

end Sys2Proof.Machine
end

section
/-! SUPPORT. TX_IMAGE with enough samples, without enough, and what it leaves unchanged (42_chunker.md R141 to R149). -/

namespace Sys2Proof.Machine

/-! ### The whole image -/

/-- The frame whose scanlines are all out is closed, and the image is consumed (R117, R146). -/
theorem ScanlinesSent.closed_eq {height width plen : Nat} {s u : State} {addr : Byte} (hidle : s.txState = .idle)
    (h : ScanlinesSent height width (s.openImage addr plen) u) {payload : List Byte}
    (hpayload : samplesBytes s.cfg.endian (s.pixels.take (width * height)) = payload) (hplen : payload.length = plen) :
    (u.closeFrame.returning .ok).signalConsumed
      = { s with txOut := s.txOut ++ frameBytes s.cfg addr s.cfg.codes.imageData payload,
                 txCrc := crc16Update s.cfg.crcSeed (frameBody s.cfg addr s.cfg.codes.imageData payload), txRemain := 0,
                 pixels := s.pixels.drop (width * height), captureReady := false, consumedSignals := s.consumedSignals + 1,
                 result := some .ok, chunkBuf := u.chunkBuf } := by
  have hframe := closeFrame_sendPayload_openFrame hidle addr s.cfg.codes.imageData payload
  have hstate := h.state
  have hcomm (x : State) : (x.returning .ok).sendPayload payload = (x.sendPayload payload).returning .ok := rfl
  rw [show (s.openImage addr plen).pixels = s.pixels from rfl, show (s.openImage addr plen).cfg = s.cfg from rfl, hpayload,
    State.openImage, ← hplen, hcomm] at hstate
  generalize (s.openFrame addr s.cfg.codes.imageData payload.length).sendPayload payload = sent at hframe hstate
  generalize u.chunkBuf = buf at hstate ⊢
  subst hstate
  exact congrArg (fun v : State =>
    { v with pixels := s.pixels.drop (width * height), captureReady := false, consumedSignals := v.consumedSignals + 1,
             result := some .ok, chunkBuf := buf }) hframe

/-- Settles O23: every scanline goes out, the frame is closed, the signal is sent. -/
theorem txImageSendsTheImage : Obligations.TxImageSendsTheImage := by
  intro s addr width height hready hsend hchunk henough hwf payload
  obtain ⟨hidle, hfits, hsink⟩ := hsend
  have himage : TakesImage s width height := ⟨hready, hidle, hfits, hchunk⟩
  have hlength : payload.length = width.toNat * height.toNat * 2 :=
    (samplesBytes_take_length _ henough).trans (Nat.mul_comm 2 _)
  have hsplit : width.toNat * height.toNat * 2 = 2 * (width.toNat * height.toNat) + 0 := by omega
  have hreturns : ChunksReturn s height.toNat width.toNat := by
    refine ⟨sinkReturnsAt_mono (Nat.zero_le _) hsink, fun j hj _ => sinkReturnsAt_mono ?_ hsink⟩
    have hpart : j * height.toNat ≤ width.toNat * height.toNat := Nat.mul_le_mul_right _ hj.le
    rw [Nat.mul_assoc 2, Nat.mul_comm height.toNat j]
    omega
  have hsent := himage.sent hwf (Nat.le_refl _) henough hreturns addr
  obtain ⟨hopen, hremain, hreturnsAt⟩ := hsent.encoder hsplit hfits henough
  have hlast : s.sinkReturnsAt (10 + 2 * height.toNat * width.toNat) = true := by
    rw [show 2 * height.toNat * width.toNat = width.toNat * height.toNat * 2 by ring]
    exact hsink
  have hend := txEnd_ok hopen (BitVec.eq_of_toNat_eq hremain) (hreturnsAt.trans hlast)
  refine ⟨_, congrArg Host.Outcome.next ?exec, hlength, hsent.closed_eq hidle rfl hlength, hsent.above, hsent.untouched, hsent.last⟩
  case exec => rw [himage.goes_on hreturns.1, andThen_of_ok hsent.result, hend, andThen_of_ok (returning_result _ .ok)]

/-! ### A source that runs short -/

/-- Settles O25: TX_IMAGE stops before the scanline that is not there; its controller cannot step until a RESET frees it. -/
theorem shortPixelSourceLeavesTheFrameOpen : Obligations.ShortPixelSourceLeavesTheFrameOpen := by
  intro s addr width height k hready hidle hfits hreturns hchunk hwf hk hbefore hshort
  have himage : TakesImage s width height := ⟨hready, hidle, hfits, hchunk⟩
  have hsent := himage.sent hwf hk.le hbefore hreturns addr
  have hleft : (imageChunks height.toNat k (s.openImage addr (width.toNat * height.toNat * 2))).pixels.length < height.toNat := by
    rw [hsent.pixels, List.length_drop]
    change s.pixels.length - _ < _
    rw [Nat.succ_mul k height.toNat] at hshort
    omega
  have hstop := himage.stops_in_turn hk hreturns.1 hsent (imageChunk_short hleft)
  clear hleft
  generalize imageChunks height.toNat k _ = u at hsent hstop
  have hstuck (rest : List Turn) (turn : Turn) := step_of_stuck (s := { u.hanging .waitingForPixels with agenda := turn :: rest })
    (f := .pixelSourceShort) rfl rest
  refine ⟨u.hanging .waitingForPixels, congrArg Host.Outcome.next hstop, hsent.txState, rfl, ?signals, ?out, hsent.pixels,
    fun r rest i hdecode hissuer => ?request, fun a fmt w h rest => ⟨?negotiate, ?writeImage⟩,
    fun hvalid => ⟨_, exec_reset_of_valid hvalid, rfl, rfl, rfl⟩⟩
  case signals =>
    change u.consumedSignals = _
    rw [hsent.state]
    rfl
  case out =>
    change u.txOut = _
    rw [hsent.state]
    rfl
  case request => exact (hstuck rest (.request r)).1 r i rfl hdecode hissuer
  case negotiate => exact (hstuck rest (.negotiate a fmt w h)).2.1 a fmt w h rfl
  case writeImage => exact (hstuck rest (.writeImage a fmt w h)).2.2 a fmt w h rfl

/-! ### What TX_IMAGE leaves unchanged -/

/-- `t` differs from `s` in what TX_IMAGE may change at most, and of the chunk buffer below `n` only (R141, R143). -/
def ChunksOnly (n : Nat) (s t : State) : Prop :=
  OnlyChunker s t ∧ ∀ a, n ≤ a → readByte t.chunkBuf a = readByte s.chunkBuf a

namespace ChunksOnly
variable {n : Nat} {s t u : State}

theorem trans (h : ChunksOnly n s t) (k : ChunksOnly n t u) : ChunksOnly n s u := by
  obtain ⟨hst, hbelow⟩ := h
  obtain ⟨htu, kbelow⟩ := k
  refine ⟨?_, fun a ha => (kbelow a ha).trans (hbelow a ha)⟩
  rw [OnlyChunker, htu, hst]

theorem andThen {f : State → State} (h : ChunksOnly n s t) (k : ChunksOnly n t (f t)) : ChunksOnly n s (t.andThen f) := by
  rcases andThen_cases t f with ⟨-, e⟩ | ⟨-, e⟩ <;> rw [e]
  · exact h.trans k
  · exact h

theorem of_onlyEncoder (n : Nat) (h : OnlyEncoder s t) : ChunksOnly n s t := by
  rw [h]
  exact ⟨rfl, fun _ _ => rfl⟩

end ChunksOnly

theorem imageChunk_chunksOnly (height : Nat) (s : State) : ChunksOnly (2 * height) s (imageChunk height s) := by
  rcases imageChunk_cases height s with ⟨-, h⟩ | ⟨henough, h⟩ <;> rw [h]
  · exact ⟨rfl, fun _ _ => rfl⟩
  · have hline : ChunksOnly (2 * height) s (s.pullLine height) := by
      refine ⟨rfl, fun a ha => readByte_writeBytes_outside _ (.inr ?_)⟩
      rw [Nat.zero_add]
      exact (samplesBytes_take_length _ henough).trans_le ha
    exact hline.trans (.of_onlyEncoder _ (txChunk_onlyEncoder _ _))

theorem imageChunks_chunksOnly (height n : Nat) (s : State) : ChunksOnly (2 * height) s (imageChunks height n s) := by
  induction n generalizing s with
  | zero => exact ⟨rfl, fun _ _ => rfl⟩
  | succ n ih => exact (imageChunk_chunksOnly height s).andThen (ih _)

/-- Settles O49: turned away it changes the outcome; otherwise step by step. -/
theorem chunkerFrame : Obligations.ChunkerFrame := by
  intro s t addr width height hexec
  cases hexec
  change ChunksOnly (2 * height.toNat) s (txImage addr width height s)
  rcases txImage_cases addr width height s with ⟨o, -, h⟩ | ⟨hready, hidle, hfits, hchunk⟩
  · rw [h]
    exact ⟨rfl, fun _ _ => rfl⟩
  · rw [txImage_of_accepted hready hidle hfits hchunk]
    have hbegin := txBegin_onlyEncoder addr s.cfg.codes.imageData (width.toNat * height.toNat * 2) s
    have hlines := (ChunksOnly.of_onlyEncoder _ hbegin).andThen (imageChunks_chunksOnly height.toNat width.toNat _)
    exact (hlines.andThen (.of_onlyEncoder _ (txEnd_onlyEncoder _))).andThen ⟨rfl, fun _ _ => rfl⟩

end Sys2Proof.Machine
end

section
/-! SUPPORT. The wire commands: what the consumer does with each class, and what it leaves unchanged
(43_receive_and_decode.md section 3; 44_environment_agents.md section 2). -/

namespace Sys2Proof.Machine

/-- Which wire command a class is of (R172). -/
def FrameClass.kind : FrameClass → CommandKind
  | .ack _ _ _ => .ack
  | .formatSet _ _ _ _ => .formatSet
  | .imageData _ _ _ => .imageData
  | .writeRegister _ _ _ => .writeRegister
  | .readRegister _ _ _ => .readRegister
  | .unknown _ _ => .unknown

/-! ### The parsers -/

theorem parseAck_kind (e : WireEndian) (addr : Byte) (payload : List Byte) : (parseAck e addr payload).kind = .ack := by
  fun_cases parseAck e addr payload <;> rfl

theorem parseFormatSet_kind (c : Configuration) (addr : Byte) (payload : List Byte) :
    (parseFormatSet c addr payload).kind = .formatSet ∨ (parseFormatSet c addr payload).kind = .unknown := by
  fun_cases parseFormatSet c addr payload with
  | case1 => exact .inl rfl
  | case2 => exact .inr rfl

theorem parseImage_kind (c : Configuration) (addr : Byte) (payload : List Byte) :
    (parseImage c addr payload).kind = .imageData ∨ (parseImage c addr payload).kind = .unknown := by
  fun_cases parseImage c addr payload with
  | case1 => exact .inl rfl
  | case2 => exact .inr rfl

theorem parseWriteReg_kind (c : Configuration) (addr : Byte) (payload : List Byte) :
    (parseWriteReg c addr payload).kind = .writeRegister ∨ (parseWriteReg c addr payload).kind = .unknown := by
  fun_cases parseWriteReg c addr payload with
  | case1 => exact .inl rfl
  | case2 => exact .inr rfl

theorem parseReadReg_kind (c : Configuration) (addr : Byte) (payload : List Byte) :
    (parseReadReg c addr payload).kind = .readRegister ∨ (parseReadReg c addr payload).kind = .unknown := by
  fun_cases parseReadReg c addr payload with
  | case1 => exact .inl rfl
  | case2 => exact .inr rfl

/-- A wire command hands the consumer a class, of its own kind or Unknown (R172, R177). -/
theorem exec_wireCommand {i : Instr} (hwire : i.isOperation = false) (s : State) :
    ∃ c : FrameClass, exec i s = .next (consume c s) ∧ (c.kind = .readRegister → ∃ a p, i = .readRegister a p)
      ∧ (c.kind = .writeRegister → ∃ a p, i = .writeRegister a p) ∧ (c.kind = .ack → ∃ a p, i = .ack a p) := by
  cases i with
  | ack a p =>
    have hkind := parseAck_kind s.cfg.endian a p
    exact ⟨_, rfl, by simp [hkind], by simp [hkind], fun _ => ⟨a, p, rfl⟩⟩
  | formatSet a p => exact ⟨_, rfl, by rcases parseFormatSet_kind s.cfg a p with hkind | hkind <;> simp [hkind]⟩
  | imageData a p => exact ⟨_, rfl, by rcases parseImage_kind s.cfg a p with hkind | hkind <;> simp [hkind]⟩
  | writeRegister a p =>
    refine ⟨_, rfl, ?_, fun _ => ⟨a, p, rfl⟩, ?_⟩ <;> rcases parseWriteReg_kind s.cfg a p with hkind | hkind <;> simp [hkind]
  | readRegister a p =>
    refine ⟨_, rfl, fun _ => ⟨a, p, rfl⟩, ?_, ?_⟩ <;> rcases parseReadReg_kind s.cfg a p with hkind | hkind <;> simp [hkind]
  | unknown a c p => exact ⟨.unknown a c, rfl, nofun, nofun, nofun⟩
  | crcLoad | crcByte | crcBlock | crcRead | txBegin | txChunk | txEnd | txFrame | txAck | txFormatSet | txImage | rxByte
  | rxBoundary | rxDecode | rxProcess | reset => exact nomatch hwire

/-! ### What the consumer leaves unchanged -/

/-- Taking an Ack: only a handshake that waits notices (R208). -/
theorem takeAck_eq (s : State) :
    takeAck s = { s with waiting := false, handshake := if s.waiting then .streaming else s.handshake } := by
  cases s with
  | mk => simp only [takeAck]; split <;> simp_all

/-- The payload of the reply to a register read (R206, R207). -/
def readReply (s : State) (seq : Half) (x : Byte) : List Byte :=
  ackPayload s.cfg.endian (replyStatus s.envCfg (Config.readRegister s.regReads x)) seq
    (replyValue (Config.readRegister s.regReads x))

/-- By the answer of `read_register` (R206, R207). -/
theorem readReply_eq (s : State) (seq : Half) (x : Byte) :
    readReply s seq x
      = match Config.readRegister s.regReads x with
        | some v => [0x00] ++ enc16 s.cfg.endian seq ++ [v]
        | none => [s.envCfg.readFailStatus] ++ enc16 s.cfg.endian seq ++ [0x00] := by
  rw [readReply]
  cases Config.readRegister s.regReads x <;> rfl

theorem readReply_length (s : State) (seq : Half) (x : Byte) : (readReply s seq x).length = 4 := ackPayload_length _ _ _ _

/-- A register read is counted and answered (R206). -/
theorem consume_readRegister (addr : Byte) (seq : Half) (x : Byte) (s : State) :
    consume (.readRegister addr seq x) s
      = txFrame addr s.cfg.codes.ack (readReply s seq x) (s.receiveClass (.readRegister addr seq x)).countRead := rfl

theorem consume_onlyConsumer (c : FrameClass) (s : State) : OnlyConsumer s (consume c s) := by
  cases c with
  | ack a p v =>
    rw [consume, takeAck_eq]
    rfl
  | readRegister a q r =>
    rw [consume_readRegister, txFrame_onlyEncoder]
    rfl
  | formatSet | imageData | writeRegister | unknown => rfl

/-- Only a register read transmits or counts a read (R206). -/
theorem consume_keeps_transmitter {c : FrameClass} (hnot : c.kind ≠ .readRegister) (s : State) :
    (consume c s).txOut = s.txOut ∧ (consume c s).txState = s.txState ∧ (consume c s).txCrc = s.txCrc
      ∧ (consume c s).txRemain = s.txRemain ∧ (consume c s).regReads = s.regReads ∧ (consume c s).result = s.result
      ∧ (consume c s).controller = s.controller := by
  cases c with
  | ack =>
    rw [consume, takeAck_eq]
    exact ⟨rfl, rfl, rfl, rfl, rfl, rfl, rfl⟩
  | readRegister => exact absurd rfl hnot
  | formatSet | imageData | writeRegister | unknown => exact ⟨rfl, rfl, rfl, rfl, rfl, rfl, rfl⟩

/-- Only a register write writes a register (R205). -/
theorem consume_regWrites {c : FrameClass} (hnot : c.kind ≠ .writeRegister) (s : State) :
    (consume c s).regWrites = s.regWrites := by
  cases c with
  | ack =>
    rw [consume, takeAck_eq]
    rfl
  | readRegister a q r =>
    rw [consume_readRegister, txFrame_onlyEncoder]
    rfl
  | writeRegister => exact absurd rfl hnot
  | formatSet | imageData | unknown => rfl

/-- Only an Ack moves the handshake (R208). -/
theorem consume_handshake {c : FrameClass} (hnot : c.kind ≠ .ack) (s : State) :
    (consume c s).handshake = s.handshake ∧ (consume c s).waiting = s.waiting := by
  cases c with
  | ack => exact absurd rfl hnot
  | readRegister a q r =>
    rw [consume_readRegister, txFrame_onlyEncoder]
    exact ⟨rfl, rfl⟩
  | formatSet | imageData | writeRegister | unknown => exact ⟨rfl, rfl⟩

/-- Settles O51: a wire command is what the consumer does with its class. -/
theorem consumerFrame : Obligations.ConsumerFrame := by
  intro i s t hwire hexec
  obtain ⟨c, hconsume, hread, hwrite, hack⟩ := exec_wireCommand hwire s
  obtain rfl : consume c s = t := Host.Outcome.next.inj (hconsume.symm.trans hexec)
  refine ⟨consume_onlyConsumer c s, fun hnot => consume_keeps_transmitter (fun hkind => ?_) s,
    fun hnot => consume_regWrites (fun hkind => ?_) s, fun hnot => consume_handshake (fun hkind => ?_) s⟩
  · obtain ⟨a, p, hi⟩ := hread hkind
    exact hnot a p hi
  · obtain ⟨a, p, hi⟩ := hwrite hkind
    exact hnot a p hi
  · obtain ⟨a, p, hi⟩ := hack hkind
    exact hnot a p hi

/-! ### Each wire command -/

/-- Settles O39: the class is recorded with its view, and the handshake may take it. -/
theorem ackCommand : Obligations.AckCommand := by
  intro s addr payload
  obtain ⟨view, hfour, hother, hparse⟩ := parseAck_view s.cfg.endian addr payload
  refine ⟨view, hfour, hother, congrArg Host.Outcome.next ?_⟩
  rw [hparse, consume, takeAck_eq]
  rfl

/-- Settles O40: both classes are recorded only. -/
theorem formatSetAndImageDataCommands : Obligations.FormatSetAndImageDataCommands := by
  intro s addr payload
  refine ⟨?formatSet, fun hsize => ?wrongFormat, fun heven => ⟨bytesSamples s.cfg.endian payload, ?count,
    fun k hk => getElem?_bytesSamples s.cfg.endian hk, ?image⟩, fun hodd => ?wrongImage⟩
  case formatSet =>
    rintro fmt w0 w1 h0 h1 rfl
    rfl
  case wrongFormat => rw [exec, execFormatSet, parseFormatSet_of_length_ne hsize]; rfl
  case count =>
    rw [bytesSamples_length]
    omega
  case image => rw [exec, execImageData, parseImage, if_pos heven]; rfl
  case wrongImage => rw [exec, execImageData, parseImage_of_odd hodd]; rfl

/-- Settles O41: one register is written, or the class is recorded only. -/
theorem writeRegisterAndUnknownCommands : Obligations.WriteRegisterAndUnknownCommands := by
  intro s addr cmd payload
  refine ⟨?write, fun hsize => ?wrong, rfl⟩
  case write =>
    rintro x y rfl
    rfl
  case wrong => rw [exec, execWriteRegister, parseWriteReg_of_length_ne hsize]; rfl

/-- Settles O42: the reply is the TX_FRAME of an acknowledgement, in whatever state the encoder and the sink are. -/
theorem readRegisterCommand : Obligations.ReadRegisterCommand := by
  intro s addr payload
  refine ⟨?read, fun hsize => ?wrong⟩
  case wrong => rw [exec, execReadRegister, parseReadReg_of_length_ne hsize]; rfl
  case read =>
    rintro s0 s1 x rfl seq reply heard
    have hreply : readReply s seq x = reply := readReply_eq s seq x
    have hlength : reply.length = 4 := hreply ▸ readReply_length s seq x
    have hexec : exec (.readRegister addr [s0, s1, x]) s
        = exec (.txFrame addr s.cfg.codes.ack reply) { s with consumed := heard, regReads := s.regReads + 1 } := by
      rw [← hreply]
      rfl
    clear_value reply
    refine ⟨hexec, fun hsend => ?_, fun hopen => ?_, fun hidle hsink => ?_⟩ <;> rw [hexec]
    · exact exec_txFrame_of_canSend (s := { s with consumed := heard, regReads := s.regReads + 1 }) rfl (hlength ▸ hsend) addr _
    · exact exec_txFrame_of_open (s := { s with consumed := heard, regReads := s.regReads + 1 }) hopen addr _ reply
    · have hsmall : frameLength reply.length ≤ maxLength := by
        rw [hlength]
        decide
      exact congrArg Host.Outcome.next (txFrame_hangs_in_header (s := { s with consumed := heard, regReads := s.regReads + 1 })
        hidle hsmall hsink addr _)

end Sys2Proof.Machine
end

section
/-! SUPPORT. The Streaming Transmitter: the announcement, a poll, and the ends of its procedures
(44_environment_agents.md R208 to R213). -/

namespace Sys2Proof.Machine

/-! ### The announcement -/

/-- The FormatSet frame is out (R121). -/
def State.formatSent (s : State) (addr fmt : Byte) (width height : Half) : State :=
  let payload := formatSetPayload s.cfg.endian fmt width height
  { s with txOut := s.txOut ++ frameBytes s.cfg addr s.cfg.codes.formatSet payload,
           txCrc := crc16Update s.cfg.crcSeed (frameBody s.cfg addr s.cfg.codes.formatSet payload), txRemain := 0,
           result := some .ok }

section
variable {s : State} (hsend : CanSend s 5) (addr fmt : Byte) (width height : Half)
include hsend

theorem txFormatSet_of_canSend : txFormatSet addr fmt width height s = s.formatSent addr fmt width height := by
  have hlength := formatSetPayload_length s.cfg.endian fmt width height
  exact Host.Outcome.next.inj ((exec_txFormatSet_eq_txFrame s addr fmt width height).trans
    (exec_txFrame_of_canSend rfl (hlength.symm ▸ hsend) addr s.cfg.codes.formatSet))

/-- With the announcement out the handshake polls (R208). -/
theorem negotiate_of_canSend (hready : s.controller = .ready) :
    negotiate addr fmt width height s
      = negotiateLoop s.envCfg.retryBudget (s.formatSent addr fmt width height).awaitAck := by
  have hsent := txFormatSet_of_canSend hsend addr fmt width height
  rw [negotiate_of_ready (by rw [hsent]; exact hready), hsent]
  rfl

end

/-! ### A poll -/

section
variable {s : State} (hquiet : s.between = [])
include hquiet

/-- A poll of a quiet channel is counted (R208). -/
theorem pollOnce_of_not_ready (hnot : s.rxReady = false) : pollOnce s = s.countPoll := by
  have hdeliver : deliverNext s = s := by rw [deliverNext, hquiet]
  rw [pollOnce_eq, hdeliver, processLoop_of_not_ready hnot]
  rfl

/-- A handshake that hears nothing uses up its budget (R209). -/
theorem negotiateLoop_times_out (hnot : s.rxReady = false) (hready : s.controller = .ready) (hwaiting : s.waiting = true) (k : Nat) :
    negotiateLoop k s = { s with polls := s.polls + k, waiting := false, result := some .handshakeTimeout } := by
  induction k generalizing s with
  | zero => rfl
  | succ k ih =>
    have hpoll := pollOnce_of_not_ready hquiet hnot
    rw [negotiateLoop_of_waiting (by rw [hpoll]; exact hready) (by rw [hpoll]; exact hwaiting), hpoll,
      ih (s := s.countPoll) hquiet hnot hready hwaiting, Nat.add_comm k, ← Nat.add_assoc]
    rfl

/-- A poll that finds an Ack frame announced hands it to the handshake (R208). -/
theorem pollOnce_of_ack {addr : Byte} {payload : List Byte} (hrx : s.rxReady = true) (hready : s.controller = .ready)
    (hdistinct : s.cfg.codes.distinct = true) (hcheck : checkBuffer s = .accepted addr s.cfg.codes.ack payload) :
    ∃ c, pollOnce s = takeAck (s.clearChannel.countPoll.receiveClass c) := by
  have hdeliver : deliverNext s = s := by rw [deliverNext, hquiet]
  obtain ⟨hdispatch, -⟩ := dispatch_of_distinct hdistinct addr payload
  obtain ⟨view, -, -, hparse⟩ := parseAck_view s.cfg.endian addr payload
  have hclear : ({ s.clearChannel with between := [] } : State) = s.clearChannel := by rw [← hquiet]; rfl
  have hserve : serviceFrame s.clearChannel.countPoll (.frame addr s.cfg.codes.ack payload)
      = consume (.ack addr payload view) s.clearChannel.countPoll := by
    have hfree : s.clearChannel.countPoll.controller = .ready := hready
    unfold serviceFrame
    rw [hfree, ← hparse, ← hdispatch]
    rfl
  refine ⟨.ack addr payload view, ?_⟩
  calc pollOnce s
    _ = serviceAll ({ s.clearChannel with between := [] } : State).countPoll [.frame addr s.cfg.codes.ack payload] := by
      rw [pollOnce_eq, hdeliver, hquiet, processLoop_nil_of_ready hrx, hcheck]
      rfl
    _ = consume (.ack addr payload view) s.clearChannel.countPoll := by
      rw [hclear]
      exact hserve

end

/-- Settles O43: the announcement goes out, and every poll of the budget finds the flag down. -/
theorem negotiateTimesOut : Obligations.NegotiateTimesOut := by
  intro s addr fmt width height hsend hready hnot hquiet payload
  rw [negotiate_of_canSend hsend addr fmt width height hready,
    negotiateLoop_times_out (s := (s.formatSent addr fmt width height).awaitAck) hquiet hnot hready rfl]
  rfl

/-! ### An Ack before the first poll -/

/-- `RX_FEED` of what fits fills the empty channel and does nothing else (R77, R160, R161). -/
theorem rxFeed_announced {s : State} {bs : List Byte} (hwf : s.rxBuf.wf = true) (hempty : s.rxCount = 0)
    (hfits : bs.length ≤ s.cfg.rxBufSize.val) :
    ∃ m, runAll (rxFeed bs) s = .next { s with rxBuf := m, rxCount := bs.length, rxReady := true }
      ∧ readBytes m 0 bs.length = bs := by
  obtain ⟨m, hfed, -, hread⟩ := bytes_appended bs hwf (by omega)
  have hnone : bufferedBytes s = [] := List.eq_nil_of_length_eq_zero ((bufferedBytes_length s).trans hempty)
  rw [hempty, Nat.zero_add] at hfed hread
  rw [hnone, List.nil_append] at hread
  rw [runAll_rxFeed, hfed]
  exact ⟨m, rfl, hread⟩

/-- A handshake that finds an Ack frame buffered and announced ends in the first poll (R208). -/
theorem negotiate_takes_ack {s : State} (hsend : CanSend s 5) (hready : s.controller = .ready) (hquiet : s.between = [])
    (hbudget : 0 < s.envCfg.retryBudget) (hdistinct : s.cfg.codes.distinct = true) (hrx : s.rxReady = true)
    (hovf : s.rxOvf = false) {origin : Byte} {payload : List Byte}
    (hframe : bufferedBytes s = frameBytes s.cfg origin s.cfg.codes.ack payload)
    (hfits : frameLength payload.length ≤ maxLength) (addr fmt : Byte) (width height : Half) :
    (negotiate addr fmt width height s).result = some .ok ∧ (negotiate addr fmt width height s).handshake = .streaming
      ∧ (negotiate addr fmt width height s).polls = s.polls + 1 := by
  have hcheck : checkBuffer (s.formatSent addr fmt width height).awaitAck = .accepted origin s.cfg.codes.ack payload :=
    checkBuffer_of_frame (s := (s.formatSent addr fmt width height).awaitAck) hframe hovf hfits
  obtain ⟨c, hpoll⟩ := pollOnce_of_ack (s := (s.formatSent addr fmt width height).awaitAck) hquiet hrx hready hdistinct hcheck
  obtain ⟨k, hk⟩ := Nat.exists_eq_succ_of_ne_zero hbudget.ne'
  have hfree : (s.formatSent addr fmt width height).awaitAck.controller = .ready := hready
  have hwaits : (s.formatSent addr fmt width height).awaitAck.waiting = true := rfl
  have hpolls : (s.formatSent addr fmt width height).awaitAck.polls = s.polls := rfl
  rw [negotiate_of_canSend hsend addr fmt width height hready, hk, ← hpolls]
  generalize (s.formatSent addr fmt width height).awaitAck = u at hpoll hfree hwaits ⊢
  rw [takeAck_eq] at hpoll
  rw [negotiateLoop_of_acked (by rw [hpoll]; exact hfree) (by rw [hpoll]), hpoll]
  exact ⟨rfl, if_pos hwaits, rfl⟩

/-- Settles O44: the fed frame is there at the first poll, and the handshake waits for it. -/
theorem negotiateTakesTheAck : Obligations.NegotiateTakesTheAck := by
  intro s addr fmt origin width height payload hsend hready hquiet hbudget hdistinct hwf hempty hovf hfits
  obtain ⟨m, hfed, hread⟩ := rxFeed_announced hwf hempty ((frameBytes_length s.cfg origin s.cfg.codes.ack payload).trans_le hfits)
  refine ⟨_, hfed, ?_⟩
  generalize hfull : (frameBytes s.cfg origin s.cfg.codes.ack payload).length = n at hread
  exact negotiate_takes_ack (s := { s with rxBuf := m, rxCount := n, rxReady := true }) hsend hready hquiet hbudget hdistinct rfl
    hovf hread (frame_fits_field hfits) addr fmt width height

/-! ### The streaming cycle -/

/-- What `t` is after a streaming cycle whose TX_IMAGE left `image` (R213). -/
def StreamCycle (policy : NegotiatePolicy) (image t : State) : Prop :=
  (image.controller ≠ .ready → t = image)
    ∧ (image.controller = .ready → policy = .once → t = image)
    ∧ (image.controller = .ready → policy = .everyFrame → t = { image with handshake := .needsFormatAck })

theorem streamImage_cycle {s : State} {env : EnvConfig} (henv : s.envCfg = env) (addr : Byte) (width height : Half) :
    StreamCycle env.negotiatePolicy (txImage addr width height s) (streamImage addr width height s) := by
  have hpolicy : (txImage addr width height s).envCfg = env := (txImage_moves addr width height s).envCfg.trans henv
  refine ⟨fun hstuck => ?stuck, fun hready honce => ?once, fun hready hevery => ?everyFrame⟩
  case stuck => exact streamImage_of_not_everyFrame fun ⟨hready, _⟩ => hstuck hready
  case once => exact streamImage_of_not_everyFrame fun ⟨_, hevery⟩ => by simp [hpolicy, honce] at hevery
  case everyFrame => exact streamImage_of_everyFrame hready (hpolicy ▸ hevery)

/-! ### What a negotiation returns -/

theorem negotiateLoop_result (k : Nat) {s : State} (hready : (negotiateLoop k s).controller = .ready) :
    (negotiateLoop k s).result = some .ok ∨ (negotiateLoop k s).result = some .handshakeTimeout := by
  induction k generalizing s with
  | zero => exact .inr rfl
  | succ k ih =>
    by_cases hpoll : (pollOnce s).controller = .ready
    · cases hwaiting : (pollOnce s).waiting with
      | true =>
        rw [negotiateLoop_of_waiting hpoll hwaiting] at hready ⊢
        exact ih hready
      | false =>
        rw [negotiateLoop_of_acked hpoll hwaiting]
        exact .inl rfl
    · rw [negotiateLoop_of_stuck hpoll] at hready
      exact absurd hready hpoll

theorem negotiate_result {s : State} {addr fmt : Byte} {width height : Half}
    (hready : (negotiate addr fmt width height s).controller = .ready) :
    (negotiate addr fmt width height s).result = some .ok ∨ (negotiate addr fmt width height s).result = some .handshakeTimeout := by
  by_cases hsent : (txFormatSet addr fmt width height s).controller = .ready
  · rw [negotiate_of_ready hsent] at hready ⊢
    exact negotiateLoop_result _ hready
  · rw [negotiate_of_stuck hsent] at hready
    exact absurd hready hsent

/-- Settles O45: by the state of the handshake, what the negotiation returned and the policy. -/
theorem writeImageAfterTimeout : Obligations.WriteImageAfterTimeout := by
  intro s addr fmt width height n image Cycle
  have henv : n.envCfg = s.envCfg := (negotiate_moves addr fmt width height s).envCfg
  have hgoes (hneeds : s.handshake = .needsFormatAck) (hready : n.controller = .ready)
      (hgo : ¬ (n.result = some .handshakeTimeout ∧ n.envCfg.failPolicy = .halt)) :
      Cycle { n with handshake := .streaming } (writeImage addr fmt width height s) := by
    rw [writeImage_of_agreed hneeds hready hgo]
    exact streamImage_cycle (s := n.withHandshake .streaming) henv addr width height
  refine ⟨fun hstreaming => ?streaming, fun hneeds => ⟨writeImage_of_stuck hneeds, negotiate_result, fun hready hok => ?ok,
    fun hready htimeout hhalt => ?halt, fun hready htimeout hproceed => ?proceed⟩⟩
  case streaming =>
    rw [writeImage_of_streaming hstreaming]
    exact streamImage_cycle rfl addr width height
  case ok => exact hgoes hneeds hready fun ⟨htimeout, _⟩ => by simp [hok] at htimeout
  case halt => exact writeImage_of_halt hneeds hready ⟨htimeout, henv ▸ hhalt⟩
  case proceed => exact hgoes hneeds hready fun ⟨_, hhalt⟩ => by simp [henv, hproceed] at hhalt

end Sys2Proof.Machine
end
